-- ==== Sys2Proof/Word.lean ====
section
/-! DEFINITION. The plain number types of the FL430 model, and reading and replacing one place of a fixed table. -/

namespace Sys2Proof

/-- One byte of host memory or of a loop frame. -/
abbrev Byte := BitVec 8

/-- A word is 32 bits (spec/00, "Words and byte order"). -/
abbrev Word := BitVec 32

/-- A host-memory address is 64 bits (spec/11, 11.3). -/
abbrev Addr := BitVec 64

/-- A value of the timebase, in microseconds (R180). -/
abbrev Instant := Nat

/-- A node, counted from 0: the node at loop address `n + 1` (addresses 1-30, R2). -/
abbrev NodeId := Fin 30

/-- One of the 8 loop tags (R41). -/
abbrev Tag := Fin 8

/-- One of the 16 job engine contexts; 0-11 hold ring jobs, 12-15 internal runs (R103). -/
abbrev CtxId := Fin 16

/-- A deferral id (R66). -/
abbrev DeferId := Fin 16

/-- A submission or completion ring (R124). -/
abbrev RingId := Fin 8

/-- A cyclic slot (R181). -/
abbrev SlotId := Fin 8

/-- An MSI-X vector (R135). -/
abbrev Vec := Fin 16

/-- A list store identifier (R99). -/
abbrev ListId := Fin 64

/-- An attention source within a node (R2). -/
abbrev Source := Fin 8

/-- The entry of a table at an index. -/
def vget {α : Type} {n : Nat} (v : Vector α n) (i : Fin n) : α := v[i.val]

/-- The table with one entry replaced. -/
def vset {α : Type} {n : Nat} (v : Vector α n) (i : Fin n) (x : α) : Vector α n := v.set i.val x

@[simp] theorem vget_vset_self {α : Type} {n : Nat} (v : Vector α n) (i : Fin n) (x : α) :
    vget (vset v i x) i = x := by simp [vget, vset]

theorem vget_vset_ne {α : Type} {n : Nat} (v : Vector α n) (i j : Fin n) (x : α) (h : i ≠ j) :
    vget (vset v i x) j = vget v j := by
  have : i.val ≠ j.val := fun e => h (Fin.ext e)
  simp [vget, vset, Vector.getElem_set, this]

theorem vget_vset {α : Type} {n : Nat} (v : Vector α n) (i j : Fin n) (x : α) :
    vget (vset v i x) j = if i = j then x else vget v j := by
  by_cases h : i = j
  · subst h; simp
  · simp [h, vget_vset_ne]

@[simp] theorem vget_replicate {α : Type} {n : Nat} (x : α) (i : Fin n) :
    vget (Vector.replicate n x) i = x := by simp [vget]

end Sys2Proof
end

