-- ==== Sys2Proof/Syntax.lean ====
section
/-! DEFINITION. The commands of the FL430: one constructor for each row of spec/opcode_table.json, with what the command
carries. The administrative rows carry nothing of their own: they carry out the command the admin unit holds, with the
parameters it read from the submission entry (R143, R197). -/

namespace Sys2Proof

/-- How a host-memory read ended: with the bytes read, or with an error at a faulting host address (R128). -/
inductive ReadEnd where
  | data (bytes : List Byte)
  | error (addr : Addr)
deriving DecidableEq, Repr

/-- How a host-memory write ended (R131, R137). -/
inductive WriteEnd where
  | ok
  | error (addr : Addr)
deriving DecidableEq, Repr

/-- The six words of the admin ring registers (R140, R202). -/
inductive AdminRegister where
  | sqBaseLow | sqBaseHigh | sqSize | cqBaseLow | cqBaseHigh | cqSize
deriving DecidableEq, Repr

/-- Whose frame a record of the transit list is: a transaction's, by its tag, or the loop controller's own TRAIN or RATE
frame (R3: at most one frame per tag and one TRAIN or RATE frame). -/
inductive FrameSender where
  | tag (t : Tag)
  | loop
deriving DecidableEq, Repr

/-- The owner of an operation in the window (R42, R46): a ring or internal context, the loop service, or the node unit. -/
inductive Owner where
  | context (c : CtxId)
  | query (n : NodeId)
  | mask (n : NodeId)
  | collect (n : NodeId)
  | cancel (d : DeferId)
  | census (n : NodeId)
  | nodeReset (n : NodeId)
deriving DecidableEq, Repr

/-- The rings whose messages are moderated (R134). -/
inductive ModeratedRing where
  | completion (k : RingId)
  | event
deriving DecidableEq, Repr

/-- The commands, one per row of spec/opcode_table.json, in its order. -/
inductive Instr where
  | powerOn
  | pcieReset
  | functionReset
  | initialisationEnd
  | enableSet
  | enableCleared
  | adminRegisterWrite (reg : AdminRegister) (value : Word)
  | registerWrite (offset : BitVec 8) (value : Word)
  | producerIndexWrite (ring : RingId) (value : Word)
  | completionConsumerIndexWrite (ring : RingId) (value : Word)
  | eventConsumerIndexWrite (value : Word)
  | captureConsumerIndexWrite (slot : SlotId) (value : Word)
  | msixVectorMaskWrite (vector : Vec) (masked : Bool)
  | fetchReadEnd (result : ReadEnd)
  | adminFetchReadEnd (result : ReadEnd)
  | identify
  | setParameters
  | createSq
  | deleteSq
  | createCq
  | deleteCq
  | setEventRing
  | loopStart
  | loopStop
  | census
  | nodeReset
  | nodeTableRead
  | loadList
  | unloadList
  | attentionAdd
  | attentionArm
  | attentionDisarm
  | attentionDelete
  | slotStart
  | slotStop
  | slotResume
  | abortJob
  | adminBufferWriteEnd (result : WriteEnd)
  | listLoadReadEnd (result : ReadEnd)
  | inlineListReadEnd (ctx : CtxId) (result : ReadEnd)
  | stagingReadEnd (ctx : CtxId) (result : ReadEnd)
  | inBufferWriteEnd (ctx : CtxId) (result : WriteEnd)
  | frameTransmitEnd
  | frameReturn (bytes : List Byte)
  | returnTimeout (sender : FrameSender)
  | busyBackoffExpiry (owner : Owner)
  | signalLoss
  | trainingTimeout
  | retrainTimerExpiry
  | deferDeadlineExpiry (entry : DeferId)
  | jobDeadlineExpiry (ctx : CtxId)
  | awaitIntervalExpiry (ctx : CtxId)
  | delayExpiry (ctx : CtxId)
  | periodExpiry (slot : SlotId)
  | eventRecordWritten
  | eventWriteError
  | completionRecordWritten (ring : RingId)
  | completionWriteError (ring : RingId) (addr : Addr)
  | moderationTimerExpiry (ring : ModeratedRing)
  | snapshotWriteEnd (slot : SlotId) (result : WriteEnd)
deriving DecidableEq, Repr

end Sys2Proof
end

