-- ==== Sys2Proof/Decode.lean ====
section
/-! DEFINITION. Reading a command from a word. No row of spec/opcode_table.json gives bits (spec/98_reader.md:
n_rows_with_fixed 0), so no word spells a command; the formats in which commands and frames do reach the part as bytes
(R197, R200, R201) are read in Machine/Operands.lean. -/

namespace Sys2Proof

/-- The command a word of the table spells: none, for every word, since no row of the table has bits. -/
def decodeTableWord (_nbits _w : Nat) : Option Instr := none

end Sys2Proof
end

