-- ==== Sys2Proof/Config.lean ====
section
/-! DEFINITION. What is fixed for every FL430 (its capacities and codes), and the one value the manual leaves open. -/

namespace Sys2Proof.Config

/-- IDENT: part code 0430h, revision 01h (R202). -/
def ident : Word := 0x00010430#32

/-- Step slots of the list store (R99). -/
def stepSlots : Nat := 2048

/-- Most steps in one list (R97). -/
def maxSteps : Nat := 256

/-- Most attention entries (R165). -/
def maxAttention : Nat := 64

/-- Most read words of a slot's list (R102). -/
def maxSlotWords : Nat := 1024

/-- Most deferred operations a node keeps (R8, R51). -/
def maxDeferred : Nat := 4

/-- Most bytes of an in-buffer or out-buffer (R105). -/
def maxBuffer : Nat := 1048576

/-- The training timer's length: 50 ms (R18, R20). -/
def trainingTime : Nat := 50000

/-- The largest value of a sequence number and of a missed count: FFFFFFFFh (R181). -/
def maxCount : Nat := 4294967295

/-- Most data words of a frame (R4). -/
def maxFrameWords : Nat := 16

/-- The number of values of the 64-bit timebase (R180). -/
def timebaseEnd : Nat := 18446744073709551616

/-- FREE VALUE (assumption 1): what the timebase holds one microsecond after its largest value. R180 gives its width
and says it takes more than 500,000 years to get there, and nothing about what follows. -/
opaque timebaseAfterLast : BitVec 64

end Sys2Proof.Config
end

