-- ==== Sys2Proof/Machine/State.lean ====
section
/-! DEFINITION. The state of the FL430 as plain data, block by block (spec/00 "Block Diagram"), and its reset values. -/

namespace Sys2Proof.Machine

/-! ### Names of states, outcomes and causes -/

/-- The loop state (R16). -/
inductive LoopState where
  | off | training | census | running | broken | stopping
deriving DecidableEq, Repr

/-- A rate code: 1 (2 Mbaud), 2 (8 Mbaud), 3 (24 Mbaud) (R1). -/
inductive RateCode where
  | r1 | r2 | r3
deriving DecidableEq, Repr

/-- A node record's state (R26). -/
inductive NodeState where
  | absent | present | silent | incompatible
deriving DecidableEq, Repr

/-- Frame kinds (spec/01, 1.3). -/
inductive FrameKind where
  | train | rate | census | command | query | mask | collect | cancel | nodeReset
deriving DecidableEq, Repr

/-- The operation of a COMMAND frame (R7). -/
inductive CommandOp where
  | read | write | pulse | test
deriving DecidableEq, Repr

/-- Reply statuses (R8, R10). `invalid` is a status byte that no code is assigned to (R201). -/
inductive ReplyStatus where
  | untouched | done | deferred | busy | refused | unknown | invalid
deriving DecidableEq, Repr

/-- The kinds of step (R82). -/
inductive StepKind where
  | read | write | pulse | test | await | blockRead | blockWrite | delay
deriving DecidableEq, Repr

/-- A step's fault policy (R94). -/
inductive FaultPolicy where
  | stop | continue
deriving DecidableEq, Repr

/-- Where a WRITE takes its words (R82). -/
inductive DataSource where
  | outBuffer | immediate
deriving DecidableEq, Repr

/-- Step fault causes (R94). -/
inductive Cause where
  | noTaker | refused | notValid | busyLimit | corruptLimit | awaitExpired | deferExpired | shortBlock
  | nodeSilent | nodeAbsent | nodeReset | inBufferFull | outBufferShort | bufferFault | loopDown
deriving DecidableEq, Repr

/-- Job outcomes (R121). -/
inductive JobOutcome where
  | ok | stepFault | aborted | deadline | loopDown | malformed | listMissing | bufferFault | ringDeleted
deriving DecidableEq, Repr

/-- Outcomes of an internal run, and NONE for an attention entry without a response list (R123, R165). -/
inductive RunOutcome where
  | ok | stepFault | loopDown | none
deriving DecidableEq, Repr

/-- Outcomes of an administrative command (R143). -/
inductive AdminOutcome where
  | ok | malformed | inUse | notFound | noSpace | loopNotRunning | badState
  | bufferFault | loopDown | noTaker | refused | busyLimit | corruptLimit
deriving DecidableEq, Repr

/-- What reached a ring job to end it (R117). -/
inductive Pending where
  | aborted | deadline | ringDeleted
deriving DecidableEq, Repr

/-- Job states (R104). -/
inductive JobState where
  | free | admitting | ready | issued | deferred | paused | aborting | completing
deriving DecidableEq, Repr

/-- Submission ring states (R126). -/
inductive SubState where
  | absent | active | draining | faulted
deriving DecidableEq, Repr

/-- States of completion rings and of the event ring (R131, R136). -/
inductive RingState where
  | absent | active | faulted
deriving DecidableEq, Repr

/-- Attention entry states (R166). -/
inductive EntryState where
  | disarmed | armed | pending | running | posting
deriving DecidableEq, Repr

/-- Attention entry kinds (R165). -/
inductive EntryKind where
  | single | repeat
deriving DecidableEq, Repr

/-- Slot states (R181). -/
inductive SlotState where
  | idle | active | waitingLoop | suspended
deriving DecidableEq, Repr

/-- What a full capture ring does to a snapshot (R181). -/
inductive FullPolicy where
  | skip | suspend
deriving DecidableEq, Repr

/-- Reasons of node notices (R195). -/
inductive NodeReason where
  | census | silence | identityChanged | reset | staleResult | unclaimedAttention
deriving DecidableEq, Repr

/-- Reasons of loop notices (R195). -/
inductive LoopReason where
  | trainingTimeout | returnsLost | signalLost | running | stopped | fatal
deriving DecidableEq, Repr

/-- Reasons of slot notices (R190). -/
inductive SlotReason where
  | loopDown | loopRunning | captureFull | captureFault | sequenceExhausted
deriving DecidableEq, Repr

/-! ### Register window, parameters, host port -/

/-- The register window's own state (R140, R141, R142, R202). ENABLED, QUIESCED and FUNCTION RESET are computed from it. -/
structure Regs where
  ready : Bool := false
  enable : Bool := false
  fatal : Bool := false
  eventFault : Bool := false
  configError : Bool := false
  adminSqBase : Addr := 0
  adminSqSize : Word := 0
  adminCqBase : Addr := 0
  adminCqSize : Word := 0
deriving DecidableEq, Repr

/-- The seven parameters, each at its default (R146). -/
structure Params where
  returnTimeout : Nat := 500
  crcLimit : Nat := 3
  busyLimit : Nat := 16
  busyBackoff : Nat := 100
  silence : Nat := 3
  deferDeadline : Nat := 200
  retrain : Nat := 250
deriving DecidableEq, Repr

/-- The MSI-X logic (R135): bit v of each flag word is vector v's. `messages` is the model's record of the vectors on
which a message has been sent since the last reset, oldest first. -/
structure HostPort where
  pendingFlags : BitVec 16 := 0
  maskedFlags : BitVec 16 := 0xFFFF
  messages : List Vec := []
deriving DecidableEq, Repr

/-- A host-memory write in progress. -/
structure HostWrite where
  addr : Addr
  bytes : List Byte
deriving DecidableEq, Repr

/-- A record write in progress: every byte but the word at offset `lastWord` is written first, that word, which holds the
phase tag, when they have completed (R125). -/
structure RecordWrite where
  addr : Addr
  bytes : List Byte
  lastWord : Nat
deriving DecidableEq, Repr

/-! ### Steps and lists -/

/-- A step record (R82). -/
structure Step where
  kind : StepKind
  node : Nat
  point : Nat
  policy : FaultPolicy
  source : DataSource
  requireValid : Bool
  endOnShort : Bool
  count : Nat
  interval : Nat
  limit : Nat
  immediate : Word
deriving DecidableEq, Repr

/-- A list store identifier (R99): the read-word total and out-buffer use are kept with a LOADED list (R98). -/
inductive StoredList where
  | empty
  | loading (count : Nat)
  | loaded (steps : List Step) (readWords : Nat) (usesOut : Bool) (refs : Nat)
deriving DecidableEq, Repr

/-! ### Rings -/

/-- Interrupt moderation of one ring (R134). -/
structure Moderation where
  count : Nat := 0
  time : Nat := 0
  unsignalled : Nat := 0
  timer : Option Instant := none
deriving DecidableEq, Repr

/-- The first continued fault of a job (R95). -/
structure FirstFault where
  step : Nat
  cause : Cause
  node : Nat
  point : Nat
deriving DecidableEq, Repr

/-- The completion record of a ring job (R121), without its phase tag. -/
structure JobRecord where
  jobId : BitVec 16
  ring : RingId
  outcome : JobOutcome
  stepsDone : Nat
  stopStep : Option Nat
  stopCause : Option Cause
  continued : Nat
  firstContinued : Option FirstFault
  inBytes : Nat
  outBytes : Nat
  endTime : Word
deriving DecidableEq, Repr

/-- The completion record of an administrative command (R143), without its phase tag. -/
structure AdminRecord where
  tag : BitVec 16
  code : Byte
  outcome : AdminOutcome
  detail : Option Nat
  endTime : Word
deriving DecidableEq, Repr

/-- A completion record waiting in a posting queue, with its source (R131). -/
inductive PostedRecord where
  | job (ctx : CtxId) (record : JobRecord)
  | admin (record : AdminRecord)
deriving DecidableEq, Repr

/-- A submission ring's record (R126). -/
structure SubRing where
  state : SubState := .absent
  base : Addr := 0
  size : Nat := 0
  cq : RingId := 0
  weight : Nat := 0
  producer : Nat := 0
  consumer : Nat := 0
  jobsHeld : Nat := 0
deriving DecidableEq, Repr

/-- A completion ring's record, with its posting queue, in order of hand-over, and the write of the queue's head in progress
(R131). -/
structure CompRing where
  state : RingState := .absent
  base : Addr := 0
  size : Nat := 0
  producer : Nat := 0
  consumer : Nat := 0
  phase : Bool := false
  vector : Vec := 0
  moderation : Moderation := {}
  queue : List PostedRecord := []
  writing : Option RecordWrite := none
deriving DecidableEq, Repr

/-- The event ring's record, with the event record write in progress (R136, R194). -/
structure EventRing where
  state : RingState := .absent
  base : Addr := 0
  size : Nat := 0
  producer : Nat := 0
  consumer : Nat := 0
  phase : Bool := false
  vector : Vec := 0
  moderation : Moderation := {}
  writing : Option RecordWrite := none
deriving DecidableEq, Repr

/-- A capture ring's record, with the snapshot write in progress (R137). -/
structure CaptureRing where
  base : Addr := 0
  size : Nat := 0
  producer : Nat := 0
  consumer : Nat := 0
  phase : Bool := false
  writing : Option RecordWrite := none
deriving DecidableEq, Repr

/-- A fetch read of the arbiter in progress (R127, R128): the ring it was begun for, and the address of the 64-byte entry it
reads (R124). -/
structure FetchRead where
  ring : RingId
  addr : Addr
deriving DecidableEq, Repr

/-- The ring engine (spec/07): the ring records, the fetch arbiter's credits and pointer, and its fetch read in
progress (R127). Credit 0 belongs to no arbiter ring and stays 0. -/
structure RingEngine where
  sub : Vector SubRing 8 := Vector.replicate 8 {}
  comp : Vector CompRing 8 := Vector.replicate 8 {}
  event : EventRing := {}
  capture : Vector CaptureRing 8 := Vector.replicate 8 {}
  credits : Vector Nat 8 := Vector.replicate 8 0
  pointer : RingId := 1
  fetch : Option FetchRead := none
deriving DecidableEq, Repr

/-! ### Administrative commands -/

/-- An administrative command with its parameters as read from the entry (R143, R197). -/
inductive AdminCommand where
  | identify (buffer : Addr)
  | setParameters (selection : Byte) (values : Params)
  | createSq (ring cq weight size : Nat) (base : Addr)
  | deleteSq (ring : Nat)
  | createCq (ring vector count size time : Nat) (base : Addr)
  | deleteCq (ring : Nat)
  | setEventRing (vector count size time : Nat) (base : Addr)
  | loopStart
  | loopStop
  | census
  | nodeReset (node : Nat)
  | nodeTableRead (buffer : Addr)
  | loadList (id count : Nat) (addr : Addr)
  | unloadList (id : Nat)
  | attentionAdd (node source kind list : Nat) (cookie : Word)
  | attentionArm (node source : Nat)
  | attentionDisarm (node source : Nat)
  | attentionDelete (node source : Nat)
  | slotStart (slot list policy vector period offset size : Nat) (base : Addr)
  | slotStop (slot : Nat)
  | slotResume (slot : Nat)
  | abortJob (ring jobId : Nat)
  | unknown
deriving DecidableEq, Repr

/-- What a waiting administrative command waits for (R144). -/
inductive AdminWait where
  | loopStart
  | loopStop
  | census
  | nodeReset
  | loadList (id : ListId)
  | deleteSq (ring : RingId) (reached : Nat)
  | slotStop (slot : SlotId)
  | bufferWrite (write : HostWrite) (detail : Option Nat)
  | eventWrite (vector : Vec) (count size time : Nat) (base : Addr)
deriving DecidableEq, Repr

/-- How far the command in progress is: read and not yet carried out, waiting, or ended with its completion record in
completion ring 0's posting queue (R129, R143). -/
inductive AdminStage where
  | dispatched
  | waiting (event : AdminWait)
  | posting
deriving DecidableEq, Repr

/-- The command in progress (R143). -/
structure AdminJob where
  code : Byte
  tag : BitVec 16
  command : AdminCommand
  stage : AdminStage
deriving DecidableEq, Repr

/-- The admin unit (R129, R143): the address of the entry that its fetch read in progress reads (R124), and the command in
progress. -/
structure AdminUnit where
  fetching : Option Addr := none
  job : Option AdminJob := none
deriving DecidableEq, Repr

/-! ### Frames, operations and transactions -/

/-- A loop frame (R4, R201): what the part sends, and what returns. -/
structure Frame where
  kind : FrameKind
  tag : Tag := 0
  retry : Bool := false
  seq : Bool := false
  mayDefer : Bool := false
  addr : Nat
  point : Nat := 0
  op : Option CommandOp := none
  count : Nat := 0
  deferId : Nat := 0
  attention : Word := 0
  collect : Word := 0
  status : ReplyStatus := .untouched
  valid : Bool := false
  delivered : Nat := 0
  replyId : Nat := 0
  data : List Word := []
deriving DecidableEq, Repr

/-- The command part of an operation (R42). `immediate` is the word of a WRITE whose data source is IMMEDIATE; a WRITE
without one sends its context's out-staging (R50, R61). -/
structure CommandPart where
  op : CommandOp
  point : Nat
  count : Nat
  immediate : Option Word
deriving DecidableEq, Repr

/-- An operation record (R42). Its class and frame kind follow from its owner (R46); its phase is the place it stands in: a
claim queue (WAITING), a tag (HOLDING) or the backoff list (BACKOFF). `fresh` marks a claim made by the event being
taken, until the claims that event makes together have been put in their order (R46). -/
structure Operation where
  owner : Owner
  node : NodeId
  command : Option CommandPart := none
  busy : Nat := 0
  fresh : Bool := true
deriving DecidableEq, Repr

/-- A transaction holding a tag (R42), with the frame it last handed over. `afterLost` says that this frame is a resend made
for a LOST return (R56), which R23 does not let out in STOPPING. -/
structure Transaction where
  operation : Operation
  seq : Bool
  retry : Bool := false
  crc : Nat := 0
  reservation : Option DeferId := none
  probe : Bool := false
  withdrawn : Bool := false
  afterLost : Bool := false
  frame : Frame
deriving DecidableEq, Repr

/-- The classes between which the turn alternates (R47). -/
inductive Turn where
  | classI | classJ
deriving DecidableEq, Repr

/-- The window controller (R41, R42, R44, R47): the tags with their transactions, the three claim queues, the operations in
BACKOFF with the instant it ends, the turn, and the doubt flags, bit t of a node's being the pair (node, t). -/
structure Window where
  tags : Vector (Option Transaction) 8 := Vector.replicate 8 none
  claimsS : List Operation := []
  claimsI : List Operation := []
  claimsJ : List Operation := []
  backoff : List (Operation × Instant) := []
  turn : Turn := .classI
  doubt : Vector Byte 30 := Vector.replicate 30 0
deriving DecidableEq, Repr

/-- A finished deferred result as a COLLECT hands it over (R10): its status is DONE, BUSY or REFUSED. -/
structure DeferredResult where
  status : ReplyStatus
  valid : Bool
  delivered : Nat
  data : List Word
deriving DecidableEq, Repr

/-- A deferral entry (R66): the fields present in each state are the ones the rule gives it. -/
inductive DeferEntry where
  | free
  | reserved (owner : CtxId) (node : NodeId) (op : CommandOp) (count : Nat) (early : Option DeferredResult)
  | waiting (owner : CtxId) (node : NodeId) (op : CommandOp) (count : Nat) (deadline : Instant)
  | orphaned (node : NodeId) (op : CommandOp) (count : Nat)
  | cancelling (node : NodeId) (op : CommandOp) (count : Nat)
deriving DecidableEq, Repr

/-- The deferral table (R66): bit i of a node's held-over set is deferral id i. -/
structure DeferTable where
  entries : Vector DeferEntry 16 := Vector.replicate 16 .free
  heldOver : Vector (BitVec 16) 30 := Vector.replicate 30 0
deriving DecidableEq, Repr

/-! ### Loop controller -/

/-- A record of the transit list (R3). `ended` is the instant the frame's transmission ended, absent while it is being sent. -/
structure TransitRecord where
  sender : FrameSender
  tag : Tag
  kind : FrameKind
  addr : Nat
  retry : Bool
  seq : Bool
  ended : Option Instant
deriving DecidableEq, Repr

/-- The loop controller (R16, R3): `sending` is the frame on the transmitter, `waiting` the frames handed over behind it, and
`agreed` the rate a RATE frame carries until it has been classified (R20). -/
structure LoopController where
  state : LoopState := .off
  rate : RateCode := .r1
  transit : List TransitRecord := []
  lost : Nat := 0
  trainingTimer : Option Instant := none
  retrainTimer : Option Instant := none
  rateSwitched : Bool := false
  sending : Option Frame := none
  waiting : List Frame := []
  agreed : Option RateCode := none
deriving DecidableEq, Repr

/-! ### Nodes -/

/-- An identity record (R6, R24): bit c of `rates` is rate code c. -/
structure Identity where
  kind : BitVec 16
  serial : Word
  points : Nat
  rates : Byte
  sources : Nat
deriving DecidableEq, Repr

/-- A node table record (R24, R25): bit t of `seq` is tag t's sequence bit, bit s of `applied` is set when source s is masked. -/
structure NodeRecord where
  state : NodeState := .absent
  identity : Option Identity := none
  seq : Byte := 0
  untouched : Nat := 0
  applied : Byte := 0xFF
  dirty : Bool := false
  outstanding : Nat := 0
deriving DecidableEq, Repr

/-- A census under way (R27): whether the CENSUS command ordered it, the addresses claimed so far (the next is
`claimed + 1`), and how many of its transactions have ended. -/
structure CensusRun where
  byCommand : Bool
  claimed : Nat
  ended : Nat
deriving DecidableEq, Repr

/-- The node unit (R24, R27). -/
structure NodeUnit where
  records : Vector NodeRecord 30 := Vector.replicate 30 {}
  census : Option CensusRun := none
deriving DecidableEq, Repr

/-! ### Jobs and contexts -/

/-- Where a context's steps are (R103). -/
inductive ListRef where
  | none
  | inline (steps : List Step)
  | stored (id : ListId)
deriving DecidableEq, Repr

/-- What a PAUSED context waits for (R113). A busy backoff's end is with its operation, in the window's backoff list. -/
inductive Pause where
  | busy
  | await (due : Instant)
  | delay (due : Instant)
deriving DecidableEq, Repr

/-- An attention entry's key (R165). -/
structure Key where
  node : NodeId
  source : Source
deriving DecidableEq, Repr

/-- Whose internal run a context carries out (R103). -/
inductive RunOwner where
  | attention (key : Key)
  | slot (slot : SlotId)
deriving DecidableEq, Repr

/-- A context's host-memory read in progress: an inline list (R108) or a staging read (R61). -/
inductive ContextRead where
  | inlineList (addr : Addr) (length : Nat)
  | staging (addr : Addr) (length : Nat)
deriving DecidableEq, Repr

/-- A context's in-buffer write in progress, with what the DONE it follows said (R60). -/
structure InBufferWrite where
  write : HostWrite
  valid : Bool
  delivered : Nat
deriving DecidableEq, Repr

/-- A job engine context (R103). The reset value is a FREE context with every other field absent or 0. `record` is the
completion record of a job in COMPLETING that has not been handed over yet (R120). -/
structure Context where
  state : JobState := .free
  sq : RingId := 0
  cq : RingId := 0
  jobId : BitVec 16 := 0
  list : ListRef := .none
  stepCount : Nat := 0
  index : Nat := 0
  remaining : Nat := 0
  tries : Nat := 0
  pause : Option Pause := none
  inAddr : Addr := 0
  inLen : Nat := 0
  outAddr : Addr := 0
  outLen : Nat := 0
  inCursor : Nat := 0
  outCursor : Nat := 0
  staging : List Word := []
  allowDefer : Bool := false
  admitted : Instant := 0
  deadline : Option Instant := none
  pending : Option Pending := none
  stepsDone : Nat := 0
  continued : Nat := 0
  firstContinued : Option FirstFault := none
  stopStep : Option Nat := none
  stopCause : Option Cause := none
  runOwner : Option RunOwner := none
  words : List Word := []
  deferredOp : Option Operation := none
  reading : Option ContextRead := none
  inWrite : Option InBufferWrite := none
  record : Option JobRecord := none
deriving DecidableEq, Repr

/-- The ending of an internal run, as the job engine hands it to the run owner (R123). -/
structure RunEnding where
  outcome : RunOutcome
  stepsDone : Nat
  continued : Nat
  firstContinued : Option FirstFault
  stopStep : Option Nat
  stopCause : Option Cause
  words : List Word
deriving DecidableEq, Repr

/-! ### Attention, slots, notices -/

/-- An attention table entry (R165). -/
structure AttentionEntry where
  key : Key
  kind : EntryKind
  list : Option ListId
  cookie : Word
  state : EntryState := .disarmed
  reraise : Bool := false
  lastOutcome : Option RunOutcome := none
deriving DecidableEq, Repr

/-- The attention unit (R165, R172). -/
structure AttentionUnit where
  table : List AttentionEntry := []
  queue : List Key := []
deriving DecidableEq, Repr

/-- A snapshot built at the end of a cyclic run (R186), without its phase tag. -/
structure Snapshot where
  slot : SlotId
  sequence : Nat
  start : Instant
  ended : Instant
  missedBefore : Nat
  outcome : RunOutcome
  stopStep : Option Nat
  stopCause : Option Cause
  continued : Nat
  words : List Word
deriving DecidableEq, Repr

/-- The run record of a slot (R181): the snapshot is present after the run has ended. -/
structure RunRecord where
  sequence : Nat
  start : Instant
  ctx : CtxId
  snapshot : Option Snapshot := none
deriving DecidableEq, Repr

/-- A cyclic slot (R181). The run-in-progress flag is set exactly while the run record is present (R185, R187), so it is
`run.isSome`. -/
structure Slot where
  state : SlotState := .idle
  list : ListId := 0
  period : Nat := 0
  nextDue : Instant := 0
  policy : FullPolicy := .skip
  vector : Vec := 0
  snapshotSize : Nat := 0
  sequence : Nat := 0
  missed : Nat := 0
  run : Option RunRecord := none
  stopWaiting : Bool := false
deriving DecidableEq, Repr

/-- What a notice is about (R192). -/
inductive Subject where
  | node (n : NodeId)
  | loop
  | slot (k : SlotId)
  | subRing (r : RingId)
  | compRing (k : RingId)
  | attention (key : Key)
deriving DecidableEq, Repr

/-- A notice's content, by kind (R195). -/
inductive NoticeBody where
  | node (state : NodeState) (reason : NodeReason) (sources : Byte)
  | loop (state : LoopState) (reason : LoopReason) (rate : RateCode)
  | slot (state : SlotState) (reason : SlotReason) (sequence missed : Nat)
  | ring (addr : Option Addr)
  | attention (outcome : RunOutcome) (cookie : Word) (stopStep : Option Nat) (stopCause : Option Cause)
      (words : List Word)
deriving DecidableEq, Repr

/-- A notice (R192). -/
structure Notice where
  subject : Subject
  body : NoticeBody
  changed : Instant
  heldChange : Bool := false
deriving DecidableEq, Repr

/-! ### The machine -/

/-- The FL430: its blocks, and the queue of the commands that are waiting, first in, first out. `handOver` is the job engine's
list of the contexts in COMPLETING whose record has not been handed over, in the order they entered it (R120). -/
structure State where
  regs : Regs := {}
  params : Params := {}
  timebase : Instant := 0
  host : HostPort := {}
  rings : RingEngine := {}
  admin : AdminUnit := {}
  jobs : Vector Context 16 := Vector.replicate 16 {}
  handOver : List CtxId := []
  lists : Vector StoredList 64 := Vector.replicate 64 .empty
  window : Window := {}
  deferral : DeferTable := {}
  loop : LoopController := {}
  nodes : NodeUnit := {}
  queryRefused : BitVec 30 := 0
  attention : AttentionUnit := {}
  slots : Vector Slot 8 := Vector.replicate 8 {}
  notices : List Notice := []
  pending : List Instr := []
deriving DecidableEq, Repr

/-- The machine right after power-on: every block at its reset values, initialisation under way (READY clear), no command
waiting (R16, R25, R41, R65, R66, R99, R103, R126, R127, R131, R135, R136, R140 to R143, R146, R165, R172, R180, R181, R192). -/
def State.reset : State := {}

/-- Why a step stops. -/
inductive Fault where
  /-- The end of a host-memory read hands over another number of bytes than the part asked for. Raised by
  FETCH_READ_END, ADMIN_FETCH_READ_END, LIST_LOAD_READ_END, INLINE_LIST_READ_END and STAGING_READ_END. Safe: no host port
  does this, so the model stops only where the hardware cannot be (assumption 5). -/
  | hostDataLength
deriving DecidableEq, Repr

/-- Why a command has no meaning. -/
inductive Refusal where
  /-- The row of this mnemonic has no meaning yet. Raised by no arm of `exec` now. Safe. -/
  | notModelled (mnemonic : String)
deriving DecidableEq, Repr

end Sys2Proof.Machine
end

