-- ==== Sys2Proof/Machine/Operands.lean ====
section
/-! DEFINITION. Reading what comes to the part as bytes: submission entries (R197), step records (R200) and loop frames
(R201), with the byte order and bit fields they use, and the building of a frame's bytes. -/

namespace Sys2Proof.Machine

/-! ### Bytes and bits (all multi-byte fields are little-endian, R197) -/

/-- The low `n` bytes of a number, least significant first. -/
def leBytes : Nat → Nat → List Byte
  | 0, _ => []
  | n + 1, v => BitVec.ofNat 8 v :: leBytes n (v / 256)

/-- The number that bytes spell, least significant first. -/
def leNat : List Byte → Nat
  | [] => 0
  | b :: rest => b.toNat + 256 * leNat rest

/-- The byte at an offset, as a number; 0 past the end. -/
def byteAt (bytes : List Byte) (i : Nat) : Nat := (bytes.getD i 0).toNat

/-- The little-endian field of `n` bytes at an offset. -/
def fieldAt (bytes : List Byte) (i n : Nat) : Nat := leNat ((bytes.drop i).take n)

/-- A 64-bit address at an offset. -/
def addrAt (bytes : List Byte) (i : Nat) : Addr := BitVec.ofNat 64 (fieldAt bytes i 8)

/-- The words that bytes spell, 4 bytes each; bytes that fill no word are dropped. -/
def wordsOf : List Byte → List Word
  | a :: b :: c :: d :: rest => BitVec.ofNat 32 (leNat [a, b, c, d]) :: wordsOf rest
  | _ => []

/-- The bytes of words, each least significant byte first. -/
def bytesOf (words : List Word) : List Byte := words.flatMap fun w => leBytes 4 w.toNat

/-- A bit set or cleared. -/
def setBit {w : Nat} (v : BitVec w) (i : Nat) (b : Bool) : BitVec w :=
  if b then v ||| BitVec.ofNat w (2 ^ i) else v &&& ~~~ BitVec.ofNat w (2 ^ i)

/-- The loop address of a node (R2). -/
def nodeAddr (n : NodeId) : Nat := n.val + 1

/-- The node at a loop address 1-30 (R2). -/
def nodeAt? (addr : Nat) : Option NodeId :=
  if h : 1 ≤ addr ∧ addr ≤ 30 then some ⟨addr - 1, by omega⟩ else none

/-- A ring id 0-7. -/
def ringAt? (id : Nat) : Option RingId := if h : id < 8 then some ⟨id, h⟩ else none

/-- A ring id 1-7: the rings that commands create and remove (R126, R131). -/
def jobRingAt? (id : Nat) : Option RingId := if h : 1 ≤ id ∧ id < 8 then some ⟨id, h.2⟩ else none

/-- A list id 0-63 (R99). -/
def listAt? (id : Nat) : Option ListId := if h : id < 64 then some ⟨id, h⟩ else none

/-- A slot 0-7 (R181). -/
def slotAt? (k : Nat) : Option SlotId := if h : k < 8 then some ⟨k, h⟩ else none

/-- A vector 0-15 (R135). -/
def vectorAt? (v : Nat) : Option Vec := if h : v < 16 then some ⟨v, h⟩ else none

/-- An attention key: node 1-30, source 0-7 (R158). -/
def keyAt? (node source : Nat) : Option Key :=
  match nodeAt? node with
  | some n => if h : source < 8 then some ⟨n, ⟨source, h⟩⟩ else none
  | none => none

/-- A power of two from 16 to 4096 (R124). -/
def isRingSize (size : Nat) : Bool :=
  [16, 32, 64, 128, 256, 512, 1024, 2048, 4096].contains size

/-! ### Submission entries (R105, R197) -/

/-- A job request as its 64-byte entry carries it (R105). -/
structure JobEntry where
  jobId : BitVec 16
  source : Nat
  permission : Nat
  inlineCount : Nat
  listId : Nat
  inlineAddr : Addr
  inAddr : Addr
  inLen : Nat
  outLen : Nat
  outAddr : Addr
  deadline : Nat
deriving DecidableEq, Repr

/-- The fields of an entry on rings 1-7, at their offsets (R197). -/
def parseJobEntry (e : List Byte) : JobEntry where
  jobId := BitVec.ofNat 16 (fieldAt e 0 2)
  source := byteAt e 2
  permission := byteAt e 3
  inlineCount := fieldAt e 4 2
  listId := byteAt e 6
  inlineAddr := addrAt e 8
  inAddr := addrAt e 16
  inLen := fieldAt e 24 4
  outLen := fieldAt e 28 4
  outAddr := addrAt e 32
  deadline := fieldAt e 40 2

/-- The parameter values of a SET PARAMETERS entry (R146, R197). -/
def parseParams (e : List Byte) : Params where
  returnTimeout := fieldAt e 8 2
  crcLimit := byteAt e 10
  busyLimit := byteAt e 11
  busyBackoff := fieldAt e 12 2
  silence := byteAt e 14
  deferDeadline := fieldAt e 16 2
  retrain := fieldAt e 18 2

/-- The command an administrative entry carries, by the code in byte 2 (R197). -/
def parseAdminCommand (e : List Byte) : AdminCommand :=
  match byteAt e 2 with
  | 0x01 => .identify (addrAt e 16)
  | 0x02 => .setParameters (e.getD 4 0) (parseParams e)
  | 0x03 => .createSq (byteAt e 4) (byteAt e 5) (byteAt e 6) (fieldAt e 8 2) (addrAt e 16)
  | 0x04 => .deleteSq (byteAt e 4)
  | 0x05 => .createCq (byteAt e 4) (byteAt e 5) (byteAt e 6) (fieldAt e 8 2) (fieldAt e 10 2) (addrAt e 16)
  | 0x06 => .deleteCq (byteAt e 4)
  | 0x07 => .setEventRing (byteAt e 5) (byteAt e 6) (fieldAt e 8 2) (fieldAt e 10 2) (addrAt e 16)
  | 0x08 => .loopStart
  | 0x09 => .loopStop
  | 0x0A => .census
  | 0x0B => .nodeReset (byteAt e 4)
  | 0x0C => .nodeTableRead (addrAt e 16)
  | 0x0D => .loadList (byteAt e 4) (fieldAt e 8 2) (addrAt e 16)
  | 0x0E => .unloadList (byteAt e 4)
  | 0x0F => .attentionAdd (byteAt e 4) (byteAt e 5) (byteAt e 6) (byteAt e 7) (BitVec.ofNat 32 (fieldAt e 8 4))
  | 0x10 => .attentionArm (byteAt e 4) (byteAt e 5)
  | 0x11 => .attentionDisarm (byteAt e 4) (byteAt e 5)
  | 0x12 => .attentionDelete (byteAt e 4) (byteAt e 5)
  | 0x13 => .slotStart (byteAt e 4) (byteAt e 5) (byteAt e 6) (byteAt e 7) (fieldAt e 8 4) (fieldAt e 12 4)
      (fieldAt e 24 2) (addrAt e 16)
  | 0x14 => .slotStop (byteAt e 4)
  | 0x15 => .slotResume (byteAt e 4)
  | 0x16 => .abortJob (byteAt e 4) (fieldAt e 6 2)
  | _ => .unknown

/-- The admin unit's job for a fetched entry: code, command tag and parameters, not yet carried out (R143, R197). -/
def parseAdminJob (e : List Byte) : AdminJob where
  code := e.getD 2 0
  tag := BitVec.ofNat 16 (fieldAt e 0 2)
  command := parseAdminCommand e
  stage := .dispatched

/-! ### Step records and their validation (R97, R98, R200) -/

/-- The eight step kinds by code (R200). -/
def stepKindOf : Nat → Option StepKind
  | 1 => some .read
  | 2 => some .write
  | 3 => some .pulse
  | 4 => some .test
  | 5 => some .await
  | 6 => some .blockRead
  | 7 => some .blockWrite
  | 8 => some .delay
  | _ => none

/-- Fault policies by code (R200). -/
def policyOf : Nat → Option FaultPolicy
  | 1 => some .stop
  | 2 => some .continue
  | _ => none

/-- Data sources by code (R200). -/
def sourceOf : Nat → Option DataSource
  | 1 => some .outBuffer
  | 2 => some .immediate
  | _ => none

/-- The node and point check: every kind but DELAY (R97). -/
def Step.addressOk (p : Step) : Bool :=
  p.kind == .delay || ((nodeAt? p.node).isSome && p.point ≤ 63)

/-- The count check (R97). -/
def Step.countOk (p : Step) : Bool :=
  match p.kind with
  | .read | .write => 1 ≤ p.count && p.count ≤ 16
  | .blockRead | .blockWrite => 1 ≤ p.count && p.count ≤ 4096
  | .pulse | .test | .await | .delay => true

/-- Data source IMMEDIATE appears only in a WRITE whose count is 1 (R97). -/
def Step.sourceOk (p : Step) : Bool :=
  p.source == .outBuffer || (p.kind == .write && p.count == 1)

/-- An AWAIT has a limit of at least 1 and an interval of 1-10,000 units (R97). -/
def Step.awaitOk (p : Step) : Bool :=
  !(p.kind == .await) || (1 ≤ p.limit && 1 ≤ p.interval && p.interval ≤ 10000)

/-- The checks of R97 on a step whose codes are assigned. DEDUCED (assumption 18): a field that the kind ignores is not checked
against a range of its own, where R83 speaks of such a check. -/
def Step.valid (p : Step) : Bool := p.addressOk && p.countOk && p.sourceOk && p.awaitOk

/-- A step record read at its offsets (R200) and checked (R97): none for a step that fails a check. -/
def parseStep (b : List Byte) : Option Step :=
  match stepKindOf (byteAt b 0), policyOf (byteAt b 3), sourceOf (byteAt b 4) with
  | some kind, some policy, some source =>
    let p : Step :=
      { kind, policy, source
        node := byteAt b 1
        point := byteAt b 2
        requireValid := (b.getD 5 0).getLsbD 0
        endOnShort := (b.getD 5 0).getLsbD 1
        count := fieldAt b 6 2
        interval := fieldAt b 8 2
        limit := fieldAt b 10 2
        immediate := BitVec.ofNat 32 (fieldAt b 12 4) }
    if p.valid then some p else none
  | _, _, _ => none

/-- Validation of `n` steps in list order (R97): the steps, or the index of the first that fails. -/
def parseSteps : Nat → Nat → List Byte → Except Nat (List Step)
  | 0, _, _ => .ok []
  | n + 1, index, b =>
    match parseStep (b.take 16) with
    | none => .error index
    | some p =>
      match parseSteps n (index + 1) (b.drop 16) with
      | .error i => .error i
      | .ok ps => .ok (p :: ps)

/-- The words a step can read: the count of a READ or BLOCK_READ (R98). -/
def Step.readWords (p : Step) : Nat :=
  match p.kind with
  | .read | .blockRead => p.count
  | _ => 0

/-- The read-word total of a list (R98). -/
def readWordTotal (steps : List Step) : Nat := (steps.map Step.readWords).sum

/-- Whether a step uses the out-buffer (R83). -/
def Step.usesOut (p : Step) : Bool := (p.kind == .write || p.kind == .blockWrite) && p.source == .outBuffer

/-- The out-buffer use of a list (R98). -/
def listUsesOut (steps : List Step) : Bool := steps.any Step.usesOut

/-! ### Loop frames (R4, R201) -/

/-- The continuation at a number, which is looked at first: `forced n k = k n`. It lets a long computation be evaluated
from its start. -/
def forced {α : Type} (n : Nat) (k : Nat → α) : α :=
  match n with
  | 0 => k 0
  | m + 1 => k (m + 1)

@[simp] theorem forced_eq {α : Type} (n : Nat) (k : Nat → α) : forced n k = k n := by cases n <;> rfl

/-- The CRC-16 shift for one bit fed in: polynomial x¹⁶ + x¹² + x⁵ + 1 (R201). Each byte is fed most significant bit
first (DESIGN CHOICE, assumption 3: R201 gives no bit order). -/
def crcBit (crc : Nat) (bit : Bool) : Nat :=
  if crc.testBit 15 != bit then (2 * crc % 65536) ^^^ 0x1021 else 2 * crc % 65536

/-- One byte fed into the CRC. -/
def crcByte (crc : Nat) (b : Byte) : Nat :=
  [7, 6, 5, 4, 3, 2, 1, 0].foldl (fun c i => crcBit c (b.getLsbD i)) crc

/-- Bytes fed into the CRC, one after another. -/
def crcFrom : Nat → List Byte → Nat
  | crc, [] => crc
  | crc, b :: rest => forced (crcByte crc b) fun c => crcFrom c rest

/-- The CRC-16 of bytes, from initial value FFFFh (R201). -/
def crc16 (bytes : List Byte) : BitVec 16 := BitVec.ofNat 16 (crcFrom 0xFFFF bytes)

/-- Frame kind codes (R201). -/
def FrameKind.code : FrameKind → Nat
  | .train => 1 | .rate => 2 | .census => 3 | .command => 4 | .query => 5
  | .mask => 6 | .collect => 7 | .cancel => 8 | .nodeReset => 9

/-- The frame kind of a code (R201). -/
def frameKindOf : Nat → Option FrameKind
  | 1 => some .train | 2 => some .rate | 3 => some .census | 4 => some .command | 5 => some .query
  | 6 => some .mask | 7 => some .collect | 8 => some .cancel | 9 => some .nodeReset
  | _ => none

/-- The operation byte: 0 for kinds other than COMMAND (R201). -/
def opCode : Option CommandOp → Nat
  | none => 0 | some .read => 1 | some .write => 2 | some .pulse => 3 | some .test => 4

/-- The operation of a byte (R201). -/
def opOf : Nat → Option CommandOp
  | 1 => some .read | 2 => some .write | 3 => some .pulse | 4 => some .test
  | _ => none

/-- Reply status codes (R201). -/
def ReplyStatus.code : ReplyStatus → Nat
  | .untouched => 0 | .done => 1 | .deferred => 2 | .busy => 3 | .refused => 4 | .unknown => 5 | .invalid => 6

/-- The reply status of a code; a code that R201 does not assign is `invalid`. -/
def replyStatusOf : Nat → ReplyStatus
  | 0 => .untouched | 1 => .done | 2 => .deferred | 3 => .busy | 4 => .refused | 5 => .unknown
  | _ => .invalid

/-- Byte 1 of a frame: tag, retry flag, sequence bit, may-defer (R201). -/
def frameFlags (f : Frame) : Byte :=
  BitVec.ofNat 8 (f.tag.val + 8 * f.retry.toNat + 16 * f.seq.toNat + 32 * f.mayDefer.toNat)

/-- A frame's bytes before its CRC (R201). -/
def frameBody (f : Frame) : List Byte :=
  leBytes 1 f.kind.code ++ [frameFlags f] ++ leBytes 1 f.addr ++ leBytes 1 f.point ++ leBytes 1 (opCode f.op)
    ++ leBytes 1 f.count ++ leBytes 1 f.deferId ++ leBytes 1 f.data.length
    ++ leBytes 4 f.attention.toNat ++ leBytes 4 f.collect.toNat
    ++ leBytes 1 f.status.code ++ leBytes 1 f.valid.toNat ++ leBytes 1 f.delivered ++ leBytes 1 f.replyId
    ++ bytesOf f.data

/-- A frame as it is sent: its bytes and the CRC of every preceding byte, low byte first (R201). -/
def frameBytes (f : Frame) : List Byte := frameBody f ++ leBytes 2 (crc16 (frameBody f)).toNat

/-- What arrived at the receiver (R14): a frame with a CRC error or a wrong length, a frame with a good CRC whose kind no
code is assigned to, or a frame. -/
inductive Arrival where
  | corrupt
  | unknownKind
  | frame (f : Frame)
deriving DecidableEq, Repr

/-- The fields of the bytes of a frame with a good CRC (R201). -/
def readFrame (kind : FrameKind) (b : List Byte) : Frame where
  kind := kind
  tag := ⟨byteAt b 1 % 8, Nat.mod_lt _ (by decide)⟩
  retry := (b.getD 1 0).getLsbD 3
  seq := (b.getD 1 0).getLsbD 4
  mayDefer := (b.getD 1 0).getLsbD 5
  addr := byteAt b 2
  point := byteAt b 3
  op := opOf (byteAt b 4)
  count := byteAt b 5
  deferId := byteAt b 6
  attention := BitVec.ofNat 32 (fieldAt b 8 4)
  collect := BitVec.ofNat 32 (fieldAt b 12 4)
  status := replyStatusOf (byteAt b 16)
  valid := (b.getD 17 0).getLsbD 0
  delivered := byteAt b 18
  replyId := byteAt b 19
  data := wordsOf ((b.drop 20).take (4 * byteAt b 7))

/-- Whether a returned frame's length agrees with its n and its CRC is good (R201). -/
def frameIntact (b : List Byte) : Bool :=
  b.length == 22 + 4 * byteAt b 7 &&
    leNat (b.drop (b.length - 2)) == (crc16 (b.take (b.length - 2))).toNat

/-- A frame as it arrived: a frame whose CRC fails, or whose length disagrees with its n, is CORRUPT (R14, R201). -/
def parseFrame (b : List Byte) : Arrival :=
  if frameIntact b then
    match frameKindOf (byteAt b 0) with
    | some kind => .frame (readFrame kind b)
    | none => .unknownKind
  else .corrupt

/-- The training pattern (R201). -/
def trainingPattern : List Word := (List.replicate 8 [0xA5A5A5A5#32, 0x5A5A5A5A#32]).flatten

/-- The identity record of a CENSUS reply's three words (R6, R201): only rate codes 1-3 belong to the supported-rate set. -/
def parseIdentity (data : List Word) : Identity where
  kind := (data.getD 0 0).setWidth 16
  points := ((data.getD 0 0).toNat / 65536) % 256
  sources := (data.getD 0 0).toNat / 16777216
  serial := data.getD 1 0
  rates := (data.getD 2 0).setWidth 8 &&& 0x0E

/-- A well-formed identity record (R28). -/
def Identity.wellFormed (i : Identity) : Bool :=
  1 ≤ i.points && i.points ≤ 64 && i.sources ≤ 8 && i.rates != 0

/-- Rate code numbers (R1). -/
def RateCode.code : RateCode → Nat
  | .r1 => 1 | .r2 => 2 | .r3 => 3

/-- Whether a node supports a rate (R6). -/
def Identity.supports (i : Identity) (r : RateCode) : Bool := i.rates.getLsbD r.code

end Sys2Proof.Machine
end

