-- ==== Sys2Proof/Machine/Records.lean ====
section
/-! DEFINITION. The records the part writes to host memory: their codes (spec/11, "Codes") and byte layouts (R196, R198 to
R200). A byte that a format does not assign is 0, and an absent field is written as R196 gives. -/

namespace Sys2Proof.Machine

/-! ### Codes -/

/-- Fault cause codes. -/
def Cause.code : Cause → Nat
  | .noTaker => 0x01 | .refused => 0x02 | .notValid => 0x03 | .busyLimit => 0x04 | .corruptLimit => 0x05
  | .awaitExpired => 0x06 | .deferExpired => 0x07 | .shortBlock => 0x08 | .nodeSilent => 0x09 | .nodeAbsent => 0x0A
  | .nodeReset => 0x0B | .inBufferFull => 0x0C | .outBufferShort => 0x0D | .bufferFault => 0x0E | .loopDown => 0x0F

/-- A fault cause, absent written as 00h (R196). -/
def causeCode : Option Cause → Nat
  | none => 0
  | some c => c.code

/-- A step index, absent written as FFFFh (R196). -/
def stepCode : Option Nat → Nat
  | none => 0xFFFF
  | some i => i

/-- Job outcome codes. -/
def JobOutcome.code : JobOutcome → Nat
  | .ok => 0x00 | .stepFault => 0x01 | .aborted => 0x02 | .deadline => 0x03 | .loopDown => 0x04 | .malformed => 0x05
  | .listMissing => 0x06 | .bufferFault => 0x07 | .ringDeleted => 0x08

/-- Run outcome codes: the job outcomes' codes, and NONE. -/
def RunOutcome.code : RunOutcome → Nat
  | .ok => 0x00 | .stepFault => 0x01 | .loopDown => 0x04 | .none => 0x09

/-- Administrative outcome codes. -/
def AdminOutcome.code : AdminOutcome → Nat
  | .ok => 0x00 | .loopDown => 0x04 | .malformed => 0x05 | .bufferFault => 0x07 | .inUse => 0x10 | .notFound => 0x11
  | .noSpace => 0x12 | .loopNotRunning => 0x13 | .badState => 0x14
  | .noTaker => 0x20 + Cause.noTaker.code | .refused => 0x20 + Cause.refused.code
  | .busyLimit => 0x20 + Cause.busyLimit.code | .corruptLimit => 0x20 + Cause.corruptLimit.code

/-- Loop state codes. -/
def LoopState.code : LoopState → Nat
  | .off => 0 | .training => 1 | .census => 2 | .running => 3 | .broken => 4 | .stopping => 5

/-- Node state codes. -/
def NodeState.code : NodeState → Nat
  | .absent => 1 | .present => 2 | .silent => 3 | .incompatible => 4

/-- Slot state codes. -/
def SlotState.code : SlotState → Nat
  | .idle => 0 | .active => 1 | .waitingLoop => 2 | .suspended => 3

/-- Attention entry state codes. -/
def EntryState.code : EntryState → Nat
  | .disarmed => 0 | .armed => 1 | .pending => 2 | .running => 3 | .posting => 4

/-- The code of ring state FAULTED, the one a ring notice carries. -/
def ringFaultedCode : Nat := 3

/-- Node reason codes. -/
def NodeReason.code : NodeReason → Nat
  | .census => 1 | .silence => 2 | .identityChanged => 3 | .reset => 4 | .staleResult => 5 | .unclaimedAttention => 6

/-- Loop reason codes. -/
def LoopReason.code : LoopReason → Nat
  | .trainingTimeout => 1 | .returnsLost => 2 | .signalLost => 3 | .running => 4 | .stopped => 5 | .fatal => 6

/-- Slot reason codes. -/
def SlotReason.code : SlotReason → Nat
  | .loopDown => 1 | .loopRunning => 2 | .captureFull => 3 | .captureFault => 4 | .sequenceExhausted => 5

/-! ### Completion records (R198) -/

/-- Bytes of zero. -/
def zeros (n : Nat) : List Byte := List.replicate n 0

/-- A job's completion record with its phase tag (R198). -/
def jobRecordBytes (r : JobRecord) (phase : Bool) : List Byte :=
  leBytes 2 r.jobId.toNat ++ leBytes 1 r.ring.val ++ leBytes 1 r.outcome.code ++ leBytes 2 r.stepsDone
    ++ leBytes 2 (stepCode r.stopStep) ++ leBytes 1 (causeCode r.stopCause) ++ zeros 1 ++ leBytes 2 r.continued
    ++ leBytes 2 (stepCode (r.firstContinued.map FirstFault.step))
    ++ leBytes 1 (causeCode (r.firstContinued.map FirstFault.cause))
    ++ leBytes 1 ((r.firstContinued.map FirstFault.node).getD 0)
    ++ leBytes 4 r.inBytes ++ leBytes 4 r.outBytes ++ leBytes 4 r.endTime.toNat
    ++ leBytes 1 ((r.firstContinued.map FirstFault.point).getD 0) ++ zeros 2 ++ leBytes 1 phase.toNat

/-- An administrative completion record with its phase tag (R143, R198). -/
def adminRecordBytes (r : AdminRecord) (phase : Bool) : List Byte :=
  leBytes 2 r.tag.toNat ++ zeros 1 ++ leBytes 1 r.outcome.code ++ zeros 5 ++ [r.code] ++ zeros 6
    ++ leBytes 4 (r.detail.getD 0) ++ zeros 4 ++ leBytes 4 r.endTime.toNat
    ++ zeros 1 ++ leBytes 1 r.detail.isSome.toNat ++ zeros 1 ++ leBytes 1 phase.toNat

/-- A completion record with its phase tag (R198). -/
def completionBytes : PostedRecord → Bool → List Byte
  | .job _ r, phase => jobRecordBytes r phase
  | .admin r, phase => adminRecordBytes r phase

/-! ### Event records (R199) -/

/-- The event kind of a notice's content (R199). -/
def NoticeBody.kindCode : NoticeBody → Nat
  | .node .. => 1 | .loop .. => 2 | .slot .. => 3 | .ring .. => 4 | .attention .. => 5

/-- Byte 1 of an event record (R199). -/
def eventReason (subject : Subject) : NoticeBody → Nat
  | .node _ reason _ => reason.code
  | .loop _ reason _ => reason.code
  | .slot _ reason _ _ => reason.code
  | .ring _ => match subject with
    | .compRing _ => 2
    | _ => 1
  | .attention .. => match subject with
    | .attention key => key.source.val
    | _ => 0

/-- Byte 2 of an event record: the state, or the run outcome (R199). -/
def NoticeBody.stateCode : NoticeBody → Nat
  | .node state _ _ => state.code
  | .loop state _ _ => state.code
  | .slot state _ _ _ => state.code
  | .ring _ => ringFaultedCode
  | .attention outcome .. => outcome.code

/-- Byte 3 of an event record: the subject (R199). -/
def Subject.code : Subject → Nat
  | .node n => nodeAddr n
  | .loop => 0
  | .slot k => k.val
  | .subRing r => r.val
  | .compRing k => k.val
  | .attention key => nodeAddr key.node

/-- Bytes 8-31 of an event record, by kind (R199). -/
def eventTail : NoticeBody → List Byte
  | .node _ _ sources => [sources] ++ zeros 23
  | .loop _ _ rate => leBytes 1 rate.code ++ zeros 23
  | .slot _ _ sequence missed => leBytes 4 sequence ++ leBytes 4 missed ++ zeros 16
  | .ring addr => leBytes 1 addr.isSome.toNat ++ zeros 7 ++ leBytes 8 (addr.getD 0).toNat ++ zeros 8
  | .attention _ cookie stopStep stopCause words =>
    leBytes 1 (causeCode stopCause) ++ leBytes 1 words.length ++ leBytes 2 (stepCode stopStep)
      ++ leBytes 4 cookie.toNat ++ bytesOf ((words ++ List.replicate 4 0).take 4)

/-- The event record of a notice, with the phase tag in bit 7 of byte 0 (R195, R199). -/
def eventBytes (n : Notice) (phase : Bool) : List Byte :=
  leBytes 1 (n.body.kindCode + 128 * phase.toNat) ++ leBytes 1 (eventReason n.subject n.body)
    ++ leBytes 1 n.body.stateCode ++ leBytes 1 n.subject.code ++ leBytes 4 n.changed ++ eventTail n.body

/-! ### Snapshots (R186, R199) -/

/-- A snapshot's size: 32 bytes and 4 for each word, rounded up to a multiple of 32 (R161). -/
def snapshotSizeFor (readWords : Nat) : Nat := (32 + 4 * readWords + 31) / 32 * 32

/-- A snapshot with its phase tag, zero-filled to the slot's snapshot size (R186, R199). -/
def snapshotBytes (p : Snapshot) (size : Nat) (phase : Bool) : List Byte :=
  (leBytes 1 p.slot.val ++ leBytes 1 p.outcome.code ++ leBytes 1 (causeCode p.stopCause) ++ zeros 1
    ++ leBytes 4 p.sequence ++ leBytes 4 p.start ++ leBytes 4 p.ended ++ leBytes 4 p.missedBefore
    ++ leBytes 2 (stepCode p.stopStep) ++ leBytes 2 p.continued ++ leBytes 2 p.words.length ++ zeros 5
    ++ leBytes 1 phase.toNat ++ bytesOf p.words ++ zeros size).take size

/-! ### Node table and identity block (R200) -/

/-- A node record as NODE TABLE READ writes it (R200). -/
def nodeRecordBytes (n : NodeId) (r : NodeRecord) : List Byte :=
  leBytes 1 (nodeAddr n) ++ leBytes 1 r.state.code ++ leBytes 1 r.identity.isSome.toNat
    ++ leBytes 1 ((r.identity.map Identity.points).getD 0)
    ++ leBytes 2 ((r.identity.map Identity.kind).getD 0).toNat
    ++ [(r.identity.map Identity.rates).getD 0] ++ leBytes 1 ((r.identity.map Identity.sources).getD 0)
    ++ leBytes 4 ((r.identity.map Identity.serial).getD 0).toNat
    ++ [r.seq] ++ leBytes 1 r.untouched ++ [r.applied] ++ leBytes 1 r.dirty.toNat ++ leBytes 1 r.outstanding
    ++ zeros 15

/-- The 30 node records, addresses 1-30 in order (R156). -/
def nodeTableBytes (records : Vector NodeRecord 30) : List Byte :=
  (List.finRange 30).flatMap fun n => nodeRecordBytes n (vget records n)

/-- Free slot count: 2048 less the step counts of the ids that are LOADING or LOADED (R99). -/
def StoredList.slots : StoredList → Nat
  | .empty => 0
  | .loading count => count
  | .loaded steps _ _ _ => steps.length

/-- The free slot count of the list store (R99). -/
def freeSlots (lists : Vector StoredList 64) : Nat :=
  Config.stepSlots - (lists.toList.map StoredList.slots).sum

/-- The 128-byte identity block (R145, R200). -/
def identityBytes (s : State) : List Byte :=
  leBytes 4 Config.ident.toNat ++ [0x0E, 30, 8, 16, 12, 4, 64, 0] ++ leBytes 2 2048 ++ leBytes 2 256
    ++ [64, 8, 8, 8] ++ leBytes 1 s.loop.state.code ++ leBytes 1 s.loop.rate.code ++ leBytes 2 (freeSlots s.lists)
    ++ leBytes 2 s.params.returnTimeout ++ leBytes 1 s.params.crcLimit ++ leBytes 1 s.params.busyLimit
    ++ leBytes 2 s.params.busyBackoff ++ leBytes 1 s.params.silence ++ zeros 1
    ++ leBytes 2 s.params.deferDeadline ++ leBytes 2 s.params.retrain ++ zeros 92

end Sys2Proof.Machine
end

