-- ==== Sys2Proof/Machine/Ops.lean ====
section
/-! DEFINITION. The named operations over the state that every block shares: replacing a block or a table entry, the
timebase, notices (R193), interrupt messages and moderation (R134, R135), ring indices (R124), list references (R102), and
handing a completion record to its ring (R131, R133). -/

namespace Sys2Proof.Machine

/-! ### Replacing one block -/

def State.setRegs (s : State) (x : Regs) : State := { s with regs := x }
def State.setParams (s : State) (x : Params) : State := { s with params := x }
def State.setTimebase (s : State) (x : Instant) : State := { s with timebase := x }
def State.setHost (s : State) (x : HostPort) : State := { s with host := x }
def State.setRings (s : State) (x : RingEngine) : State := { s with rings := x }
def State.setAdmin (s : State) (x : AdminUnit) : State := { s with admin := x }
def State.setJobs (s : State) (x : Vector Context 16) : State := { s with jobs := x }
def State.setHandOver (s : State) (x : List CtxId) : State := { s with handOver := x }
def State.setLists (s : State) (x : Vector StoredList 64) : State := { s with lists := x }
def State.setWindow (s : State) (x : Window) : State := { s with window := x }
def State.setDeferral (s : State) (x : DeferTable) : State := { s with deferral := x }
def State.setLoop (s : State) (x : LoopController) : State := { s with loop := x }
def State.setNodes (s : State) (x : NodeUnit) : State := { s with nodes := x }
def State.setQueryRefused (s : State) (x : BitVec 30) : State := { s with queryRefused := x }
def State.setAttention (s : State) (x : AttentionUnit) : State := { s with attention := x }
def State.setSlots (s : State) (x : Vector Slot 8) : State := { s with slots := x }
def State.setNotices (s : State) (x : List Notice) : State := { s with notices := x }

/-! ### Reading and replacing one entry of a table -/

def State.ctx (s : State) (c : CtxId) : Context := vget s.jobs c
def State.setCtx (s : State) (c : CtxId) (x : Context) : State := s.setJobs (vset s.jobs c x)
def State.modCtx (s : State) (c : CtxId) (f : Context → Context) : State := s.setCtx c (f (s.ctx c))

def State.stored (s : State) (id : ListId) : StoredList := vget s.lists id
def State.setStored (s : State) (id : ListId) (x : StoredList) : State := s.setLists (vset s.lists id x)

def State.subRing (s : State) (r : RingId) : SubRing := vget s.rings.sub r
def State.setSubRing (s : State) (r : RingId) (x : SubRing) : State :=
  s.setRings { s.rings with sub := vset s.rings.sub r x }

def State.compRing (s : State) (k : RingId) : CompRing := vget s.rings.comp k
def State.setCompRing (s : State) (k : RingId) (x : CompRing) : State :=
  s.setRings { s.rings with comp := vset s.rings.comp k x }

def State.setEventRing (s : State) (x : EventRing) : State := s.setRings { s.rings with event := x }

def State.captureRing (s : State) (k : SlotId) : CaptureRing := vget s.rings.capture k
def State.setCaptureRing (s : State) (k : SlotId) (x : CaptureRing) : State :=
  s.setRings { s.rings with capture := vset s.rings.capture k x }

def State.slot (s : State) (k : SlotId) : Slot := vget s.slots k
def State.setSlot (s : State) (k : SlotId) (x : Slot) : State := s.setSlots (vset s.slots k x)

def State.node (s : State) (n : NodeId) : NodeRecord := vget s.nodes.records n
def State.setNode (s : State) (n : NodeId) (x : NodeRecord) : State :=
  s.setNodes { s.nodes with records := vset s.nodes.records n x }
def State.modNode (s : State) (n : NodeId) (f : NodeRecord → NodeRecord) : State := s.setNode n (f (s.node n))

def State.entry (s : State) (d : DeferId) : DeferEntry := vget s.deferral.entries d
def State.setEntry (s : State) (d : DeferId) (x : DeferEntry) : State :=
  s.setDeferral { s.deferral with entries := vset s.deferral.entries d x }

def State.heldOver (s : State) (n : NodeId) : BitVec 16 := vget s.deferral.heldOver n
def State.setHeldOver (s : State) (n : NodeId) (x : BitVec 16) : State :=
  s.setDeferral { s.deferral with heldOver := vset s.deferral.heldOver n x }

def State.tag (s : State) (t : Tag) : Option Transaction := vget s.window.tags t
def State.setTag (s : State) (t : Tag) (x : Option Transaction) : State :=
  s.setWindow { s.window with tags := vset s.window.tags t x }

/-- Whether the pair (node, tag) is doubtful (R44). -/
def State.doubtful (s : State) (n : NodeId) (t : Tag) : Bool := (vget s.window.doubt n).getLsbD t.val
def State.setDoubt (s : State) (n : NodeId) (t : Tag) (b : Bool) : State :=
  s.setWindow { s.window with doubt := vset s.window.doubt n (setBit (vget s.window.doubt n) t.val b) }

/-! ### The timebase (R180) -/

/-- The low half of the timebase: a 32-bit timestamp (R180). -/
def stamp (i : Instant) : Word := BitVec.ofNat 32 i

/-- Bring the timebase to an instant it has not reached: taking a timer's expiry is the arrival of its instant
(assumption 2). DESIGN CHOICE (assumption 34): a due instant at or past 2^64 microseconds, which R180 makes no value of the
timebase, is kept as the sum it is, and its expiry is taken with the timebase left where it stands. -/
def reachInstant (due : Instant) (s : State) : State :=
  if s.timebase < due ∧ due < Config.timebaseEnd then s.setTimebase due else s

/-! ### Notices (R193) -/

/-- The content of a refreshed notice: two *unclaimed attention* notices merge their source sets, and otherwise the newer
content stands (R193). -/
def mergeBody : NoticeBody → NoticeBody → NoticeBody
  | .node _ .unclaimedAttention old, .node state .unclaimedAttention new =>
    .node state .unclaimedAttention (old ||| new)
  | _, new => new

/-- A notice taken into the queue: appended, or refreshed in its place. `writing` says that the record of the notice at the
head is being written, so that a refresh of it is held (R193, R194). -/
def insertNotice (writing : Bool) (now : Instant) (subject : Subject) (body : NoticeBody) : List Notice → List Notice
  | [] => [{ subject, body, changed := now }]
  | n :: rest =>
    if n.subject = subject then
      { n with body := mergeBody n.body body, changed := now, heldChange := n.heldChange || writing } :: rest
    else n :: insertNotice false now subject body rest

/-- A block hands the event poster a notice (R193). -/
def notify (subject : Subject) (body : NoticeBody) (s : State) : State :=
  s.setNotices (insertNotice s.rings.event.writing.isSome s.timebase subject body s.notices)

/-- A node notice with the record's state as it now stands. -/
def notifyNode (n : NodeId) (reason : NodeReason) (sources : Byte) (s : State) : State :=
  notify (.node n) (.node (s.node n).state reason sources) s

/-- A loop notice with the loop state and rate code as they now stand. -/
def notifyLoop (reason : LoopReason) (s : State) : State :=
  notify .loop (.loop s.loop.state reason s.loop.rate) s

/-- A slot notice with the slot's state, sequence number and missed count as they now stand (R190, R195). -/
def notifySlot (k : SlotId) (reason : SlotReason) (s : State) : State :=
  notify (.slot k) (.slot (s.slot k).state reason (s.slot k).sequence (s.slot k).missed) s

/-! ### Messages and moderation (R134, R135) -/

/-- An interrupt message on a vector: it goes out, or sets the vector's pending flag while the vector is masked (R135). -/
def sendMessage (v : Vec) (s : State) : State :=
  if s.host.maskedFlags.getLsbD v.val then
    s.setHost { s.host with pendingFlags := setBit s.host.pendingFlags v.val true }
  else s.setHost { s.host with messages := s.host.messages ++ [v] }

/-- A moderation state with nothing unsignalled and its timer stopped: after a message, and after a consumer write that
empties the ring (R134). -/
def Moderation.clear (m : Moderation) : Moderation := { m with unsignalled := 0, timer := none }

/-- A record has been written to the ring: the count rises, and the timer starts with the first record not signalled (R134). -/
def Moderation.record (now : Instant) (m : Moderation) : Moderation :=
  { m with
    unsignalled := m.unsignalled + 1
    timer := if m.unsignalled = 0 ∧ 0 < m.time then some (now + m.time) else m.timer }

/-- Whether the record just counted brings a message: the count equals the moderation count, or the moderation time is 0
(R134). -/
def Moderation.due (m : Moderation) : Bool := m.unsignalled == m.count || m.time == 0

/-- A record's effect on moderation and the message it may bring (R134). -/
def Moderation.written (now : Instant) (m : Moderation) : Moderation :=
  if (m.record now).due then (m.record now).clear else m.record now

/-! ### Ring indices (R124, R125, R132) -/

/-- A ring is full when its producer index plus one equals its consumer index, modulo the size (R124); a ring of size 0 has
no place for a record. -/
def ringFull (producer consumer size : Nat) : Bool := size == 0 || (producer + 1) % size == consumer

/-- The index after an index, wrapping to 0 (R124). -/
def nextIndex (i size : Nat) : Nat := if i + 1 = size then 0 else i + 1

/-- The phase after a record at an index: it flips when the producer index wraps (R125). -/
def nextPhase (phase : Bool) (i size : Nat) : Bool := if i + 1 = size then !phase else phase

/-- How many records lie from one index forward to another, with wrap (R132). -/
def distance (old new size : Nat) : Nat := (new + size - old) % size

/-- A consumer index write is accepted when it is below the size and does not pass the producer index (R132). -/
def consumerAccepted (producer consumer size value : Nat) : Bool :=
  value < size && distance consumer value size ≤ distance consumer producer size

/-- The host-memory address of the record at an index (R124), modulo 2^64 (DESIGN CHOICE, assumption 35). -/
def recordAddr (base : Addr) (index recordSize : Nat) : Addr := base + BitVec.ofNat 64 (index * recordSize)

/-! ### List references (R102) -/

/-- The steps, read words and out-buffer use held under an id, when it is LOADED. -/
def StoredList.steps : StoredList → List Step
  | .loaded steps _ _ _ => steps
  | _ => []

/-- One more user of a LOADED list (R102). -/
def takeReference (id : ListId) (s : State) : State :=
  match s.stored id with
  | .loaded steps words out refs => s.setStored id (.loaded steps words out (refs + 1))
  | _ => s

/-- One user less of a LOADED list (R102). -/
def releaseReference (id : ListId) (s : State) : State :=
  match s.stored id with
  | .loaded steps words out refs => s.setStored id (.loaded steps words out (refs - 1))
  | _ => s

/-! ### Contexts, completion records and the command in progress -/

/-- A context becomes FREE; a ring context's submission ring holds one job less (R120, R126). -/
def freeContext (c : CtxId) (s : State) : State :=
  let r := (s.ctx c).sq
  let s' := s.setCtx c {}
  if c.val < 12 then s'.setSubRing r { s'.subRing r with jobsHeld := (s'.subRing r).jobsHeld - 1 } else s'

/-- No administrative command is in progress (R129). -/
def clearAdmin (s : State) : State := s.setAdmin { s.admin with job := none }

/-- The source of a record that has been written or dropped is told: its context becomes FREE, or the command is no longer
in progress (R131, R133, R138). -/
def releaseSource (p : PostedRecord) (s : State) : State :=
  match p with
  | .job c _ => freeContext c s
  | .admin _ => clearAdmin s

/-- A record handed to completion ring k: it joins the posting queue, or is dropped when the ring is not ACTIVE (R131, R133). -/
def handRecord (k : RingId) (p : PostedRecord) (s : State) : State :=
  let r := s.compRing k
  if r.state = .active then s.setCompRing k { r with queue := r.queue ++ [p] } else releaseSource p s

/-- The command in progress ends: its record goes to completion ring 0 (R143). -/
def endAdmin (outcome : AdminOutcome) (detail : Option Nat) (s : State) : State :=
  match s.admin.job with
  | none => s
  | some j =>
    handRecord 0 (.admin { tag := j.tag, code := j.code, outcome, detail, endTime := stamp s.timebase })
      (s.setAdmin { s.admin with job := some { j with stage := .posting } })

/-- The command in progress now waits for an event (R144). -/
def waitAdmin (event : AdminWait) (s : State) : State :=
  match s.admin.job with
  | none => s
  | some j => s.setAdmin { s.admin with job := some { j with stage := .waiting event } }

/-- The event the command in progress waits for, if it waits. -/
def adminWait (s : State) : Option AdminWait :=
  match s.admin.job with
  | some { stage := .waiting event, .. } => some event
  | _ => none

/-- The command dispatched to the admin unit and not yet carried out (R129, R143). -/
def dispatched (s : State) : Option AdminCommand :=
  match s.admin.job with
  | some { stage := .dispatched, command, .. } => some command
  | _ => none

/-- The number of node records in state PRESENT. -/
def presentCount (s : State) : Nat := s.nodes.records.toList.countP fun r => r.state == .present

/-- The job record of a context at its entry to COMPLETING (R121). -/
def jobRecord (outcome : JobOutcome) (x : Context) (now : Instant) : JobRecord where
  jobId := x.jobId
  ring := x.sq
  outcome := outcome
  stepsDone := x.stepsDone
  stopStep := x.stopStep
  stopCause := x.stopCause
  continued := x.continued
  firstContinued := x.firstContinued
  inBytes := x.inCursor
  outBytes := x.outCursor
  endTime := stamp now

/-- A context's reference on a stored list is released (R102, R120). -/
def releaseList (x : Context) (s : State) : State :=
  match x.list with
  | .stored id => releaseReference id s
  | _ => s

/-- A context's record handed over to its completion ring (R120, R131). -/
def handJob (c : CtxId) (s : State) : State :=
  match (s.ctx c).record with
  | some r => handRecord (s.ctx c).cq (.job c r) (s.modCtx c fun x => { x with record := none })
  | none => s

/-- One context of the job engine's list: its record is handed over, unless its host-memory read is still in progress or a
record of the same completion ring stands before it in the list (R120; assumption 28). -/
def handNext (s : State) (c : CtxId) : State :=
  if (s.ctx c).reading.isSome || s.handOver.any (fun d => (s.ctx d).cq == (s.ctx c).cq) then
    s.setHandOver (s.handOver ++ [c])
  else handJob c s

/-- The records of jobs in COMPLETING that can be handed over are, in the order their contexts entered it (R120). -/
def handOverRecords (s : State) : State := s.handOver.foldl handNext (s.setHandOver [])

/-- A ring job enters COMPLETING (R120): the deadline timer stops, the list's reference is released, and the record is built,
to be handed over behind the records of the contexts that entered COMPLETING before it. A host-memory read of the job that is
still in progress goes on, and the record waits for it. -/
def enterCompleting (c : CtxId) (outcome : JobOutcome) (s : State) : State :=
  let x := s.ctx c
  let done : Context :=
    { x with state := .completing, deadline := none, pause := none, list := .none, staging := [], deferredOp := none,
             inWrite := none, record := some (jobRecord outcome x s.timebase) }
  let s := (releaseList x s).setCtx c done
  handOverRecords (s.setHandOver (s.handOver ++ [c]))

/-- A read that outlived its job has ended: its data is discarded, and the job's record can be handed over (R120). -/
def readOutlived (c : CtxId) (s : State) : State := handOverRecords (s.modCtx c fun x => { x with reading := none })

end Sys2Proof.Machine
end

