-- ==== Sys2Proof/Machine/AttentionOps.lean ====
section
/-! DEFINITION. The attention unit's operations: the desired mask (R167), taking a reported source set (R170, R171), the end
of a response run (R173), posting and what follows it (R174, R175). -/

namespace Sys2Proof.Machine

/-- The entry that holds a key (R165). -/
def State.attentionEntry (s : State) (key : Key) : Option AttentionEntry :=
  s.attention.table.find? fun e => e.key = key

/-- Change the entry that holds a key. -/
def State.modAttention (s : State) (key : Key) (f : AttentionEntry → AttentionEntry) : State :=
  s.setAttention { s.attention with table := s.attention.table.map fun e => if e.key = key then f e else e }

/-- The desired mask of a node (R167): source s's bit is clear exactly when an entry (n, s) exists and is not DISARMED. -/
def desiredMask (table : List AttentionEntry) (n : NodeId) : Byte :=
  table.foldl
    (fun mask e => if e.key.node = n ∧ e.state ≠ .disarmed then setBit mask e.key.source.val false else mask) 0xFF

/-- The desired mask of a node changed: the node is marked mask-dirty when it differs from the applied mask (R37, R167). -/
def desiredChanged (n : NodeId) (s : State) : State :=
  if desiredMask s.attention.table n ≠ (s.node n).applied then s.modNode n fun r => { r with dirty := true } else s

/-- An entry's place in the pending attention queue: it becomes PENDING and joins at the tail (R172). -/
def enterPending (key : Key) (s : State) : State :=
  let s := s.modAttention key fun e => { e with state := .pending }
  s.setAttention { s.attention with queue := s.attention.queue ++ [key] }

/-- An entry enters POSTING with a run outcome, and its ATTENTION DONE notice is handed over (R173, R174). -/
def enterPosting (key : Key) (outcome : RunOutcome) (stopStep : Option Nat) (stopCause : Option Cause)
    (words : List Word) (s : State) : State :=
  match s.attentionEntry key with
  | none => s
  | some e =>
    notify (.attention key) (.attention outcome e.cookie stopStep stopCause words)
      (s.modAttention key fun e => { e with state := .posting, lastOutcome := some outcome })

/-- An ARMED entry fires: PENDING with a response list, POSTING with outcome NONE without one (R170, R174). -/
def fireEntry (e : AttentionEntry) (s : State) : State :=
  if e.list.isSome then enterPending e.key s else enterPosting e.key .none none none [] s

/-- One source of a reported set, by the entry that holds its key (R170). -/
def takeSource (key : Key) (s : State) : State :=
  match s.attentionEntry key with
  | none => s
  | some e =>
    match e.state, e.kind with
    | .disarmed, _ => s
    | .armed, _ => fireEntry e s
    | .pending, .repeat | .running, .repeat | .posting, .repeat =>
      s.modAttention key fun e => { e with reraise := true }
    | .pending, .single | .running, .single | .posting, .single => s

/-- A source that no entry claims: none holds its key, or the one that does is DISARMED (R170, R171). -/
def unclaimed (s : State) (key : Key) : Bool :=
  match s.attentionEntry key with
  | none => true
  | some e => e.state == .disarmed

/-- The sources of a set, in increasing order (R170). -/
def sourcesOf (set : Byte) : List Source := (List.finRange 8).filter fun i => set.getLsbD i.val

/-- The unclaimed sources of a reported set (R171). -/
def unclaimedSet (s : State) (n : NodeId) (set : Byte) : Byte :=
  (sourcesOf set).foldl (fun out i => if unclaimed s ⟨n, i⟩ then setBit out i.val true else out) 0

/-- A source set from a QUERY DONE of a node, taken whole (R170, R171). The unclaimed sources bring one node notice and the
mask-dirty flag. DESIGN CHOICE (assumption 14): the ATTENTION DONE notices of the entries that fire without a list are handed over
in increasing source order, which R170 gives for the entries that join the pending queue, and the node notice after them. -/
def takeSourceSet (n : NodeId) (set : Byte) (s : State) : State :=
  let lost := unclaimedSet s n set
  let s := (sourcesOf set).foldl (fun s i => takeSource ⟨n, i⟩ s) s
  if lost = 0 then s
  else (notifyNode n .unclaimedAttention lost s).modNode n fun r => { r with dirty := true }

/-- A response run ends: the entry enters POSTING with the run's outcome and the words kept (R173). -/
def attentionRunEnds (key : Key) (e : RunEnding) (s : State) : State :=
  enterPosting key e.outcome e.stopStep e.stopCause e.words s

/-- An entry's ATTENTION DONE record has been written (R175). -/
def postingEnds (key : Key) (s : State) : State :=
  match s.attentionEntry key with
  | none => s
  | some e =>
    match e.kind with
    | .single =>
      desiredChanged key.node (s.modAttention key fun e => { e with state := .disarmed, reraise := false })
    | .repeat =>
      if e.reraise then
        let s := s.modAttention key fun e => { e with reraise := false }
        fireEntry e s
      else s.modAttention key fun e => { e with state := .armed }

end Sys2Proof.Machine
end

