-- ==== Sys2Proof/Machine/CyclicOps.lean ====
section
/-! DEFINITION. The cyclic scheduler's operations: the snapshot at a run's end (R186), its offer to the capture ring and the
answer (R137, R187, R189), and a slot's return to IDLE (R181). -/

namespace Sys2Proof.Machine

/-- The answer of the ring engine to a snapshot's offer (R137). -/
inductive OfferAnswer where
  | posted | full | fault
deriving DecidableEq, Repr

/-- The missed count with one more period, held at FFFFFFFFh (R183). -/
def missedUp (missed : Nat) : Nat := if missed < Config.maxCount then missed + 1 else missed

/-- A slot returns to IDLE: every other field becomes 0 or absent, the list's reference is released and the capture ring's
record becomes all 0 (R181). -/
def returnToIdle (k : SlotId) (s : State) : State :=
  (((releaseReference (s.slot k).list s).setSlot k {}).setCaptureRing k {})

/-- A waiting SLOT STOP ends: the slot is IDLE again, and the command reports the missed count at that instant (R162, R189). -/
def finishSlotStop (k : SlotId) (s : State) : State :=
  let missed := (s.slot k).missed
  let s := returnToIdle k s
  if adminWait s = some (.slotStop k) then endAdmin .ok (some missed) s else s

/-- A slot whose snapshot was discarded enters SUSPENDED, with its notice (R187, R190). -/
def suspendSlot (k : SlotId) (reason : SlotReason) (s : State) : State :=
  let x := s.slot k
  if x.state = .active ∨ x.state = .waitingLoop then
    notifySlot k reason (s.setSlot k { x with state := .suspended })
  else s

/-- The missed count after an answer: a posted snapshot takes its missed-before off, a discarded one adds one (R187). -/
def missedAfter (answer : OfferAnswer) (x : Slot) : Nat :=
  match answer, x.run with
  | .posted, some r => x.missed - (r.snapshot.map Snapshot.missedBefore).getD 0
  | .posted, none => x.missed
  | .full, _ | .fault, _ => missedUp x.missed

/-- A snapshot's offer is answered (R187, R189). -/
def answerOffer (k : SlotId) (answer : OfferAnswer) (s : State) : State :=
  let x := s.slot k
  let s := s.setSlot k { x with missed := missedAfter answer x, run := none }
  if x.stopWaiting then finishSlotStop k s
  else
    match answer with
    | .posted => s
    | .full => if x.policy = .suspend then suspendSlot k .captureFull s else s
    | .fault => suspendSlot k .captureFault s

/-- A built snapshot is offered: a full ring answers at once, otherwise its write begins, header phase word last (R137). -/
def offerSnapshot (k : SlotId) (p : Snapshot) (s : State) : State :=
  let r := s.captureRing k
  let size := (s.slot k).snapshotSize
  if ringFull r.producer r.consumer r.size then answerOffer k .full s
  else
    s.setCaptureRing k
      { r with writing := some { addr := recordAddr r.base r.producer size, bytes := snapshotBytes p size r.phase,
                                 lastWord := 28 } }

/-- The snapshot of a run that has ended (R186). -/
def buildSnapshot (k : SlotId) (r : RunRecord) (e : RunEnding) (s : State) : Snapshot where
  slot := k
  sequence := r.sequence
  start := r.start
  ended := s.timebase
  missedBefore := (s.slot k).missed
  outcome := e.outcome
  stopStep := e.stopStep
  stopCause := e.stopCause
  continued := e.continued
  words := e.words

/-- The ending of a run reaches the scheduler: the snapshot is built in the run record and offered (R186, R187). -/
def slotRunEnds (k : SlotId) (e : RunEnding) (s : State) : State :=
  match (s.slot k).run with
  | none => s
  | some r =>
    let p := buildSnapshot k r e s
    offerSnapshot k p (s.setSlot k { s.slot k with run := some { r with snapshot := some p } })

/-- The loop enters RUNNING: a slot in WAITING_LOOP returns to ACTIVE (R184). -/
def slotLoopRunning (k : SlotId) (s : State) : State :=
  let x := s.slot k
  if x.state = .waitingLoop then notifySlot k .loopRunning (s.setSlot k { x with state := .active }) else s

end Sys2Proof.Machine
end

