-- ==== Sys2Proof/Machine/JobOps.lean ====
section
/-! DEFINITION. The job engine: making a claim (R46), starting a step and its operations (R84, R85, R111), what a DONE does
to a step (R86 to R91), fault policy (R94, R95), the end of a job or run (R115, R118, R123), and an operation's outcome (R112). -/

namespace Sys2Proof.Machine

/-! ### Claims (R42, R46) -/

/-- The claim classes (R46). -/
inductive ClaimClass where
  | S | I | J
deriving DecidableEq, Repr

/-- The class of an owner's claims (R46). -/
def classOf : Owner → ClaimClass
  | .context c => if c.val < 12 then .J else .I
  | _ => .S

/-- The frame kind of an owner's operations (R46). -/
def kindOf : Owner → FrameKind
  | .context _ => .command
  | .query _ => .query
  | .mask _ => .mask
  | .collect _ => .collect
  | .cancel _ => .cancel
  | .census _ => .census
  | .nodeReset _ => .nodeReset

/-- Whether the loop state permits a new transaction of a kind (R17, R47). -/
def permits (state : LoopState) (kind : FrameKind) : Bool :=
  match kind with
  | .census => state == .census || state == .running
  | _ => state == .running

/-- An operation joins the tail of its class's claim queue (R46). -/
def pushClaim (op : Operation) (s : State) : State :=
  match classOf op.owner with
  | .S => s.setWindow { s.window with claimsS := s.window.claimsS ++ [op] }
  | .I => s.setWindow { s.window with claimsI := s.window.claimsI ++ [op] }
  | .J => s.setWindow { s.window with claimsJ := s.window.claimsJ ++ [op] }

/-! ### Steps -/

/-- Whether a context is a ring context (R103). -/
def isRing (c : CtxId) : Bool := c.val < 12

/-- The steps of a context's list: its own, or the stored list's (R103). -/
def stepsOf (s : State) (x : Context) : List Step :=
  match x.list with
  | .none => []
  | .inline steps => steps
  | .stored id => (s.stored id).steps

/-- The step at the context's step index (R84). -/
def currentStep (s : State) (c : CtxId) : Option Step := (stepsOf s (s.ctx c))[(s.ctx c).index]?

/-- The COMMAND operation of a step's kind (R86 to R90). -/
def StepKind.command : StepKind → CommandOp
  | .read | .blockRead => .read
  | .write | .blockWrite => .write
  | .pulse => .pulse
  | .test | .await | .delay => .test

/-- The count of the step's next operation: a chunk of a BLOCK step is min(16, words remaining) (R90). -/
def opCount (p : Step) (x : Context) : Nat :=
  match p.kind with
  | .read | .write => p.count
  | .blockRead | .blockWrite => min 16 x.remaining
  | .pulse | .test | .await | .delay => 0

/-- A step's kind reads words (R60). -/
def Step.reads (p : Step) : Bool := p.kind == .read || p.kind == .blockRead

/-- How a step ended (R84). -/
inductive StepEnd where
  | completed
  | fault (cause : Cause)
deriving DecidableEq, Repr

/-- The causes that stop a job whatever the step's fault policy (R94). -/
def Cause.alwaysStops : Cause → Bool
  | .inBufferFull | .outBufferShort | .bufferFault | .loopDown => true
  | _ => false

/-- Whether a fault of a step stops the job (R94). -/
def Step.stops (p : Step) (cause : Cause) : Bool := p.policy == .stop || cause.alwaysStops

/-- A step's ending recorded in its context (R84, R94, R95): counts and step index, the first continued fault, or the stop
step and stop cause. -/
def recordEnd (p : Step) (e : StepEnd) (x : Context) : Context :=
  match e with
  | .completed => { x with stepsDone := x.stepsDone + 1, index := x.index + 1 }
  | .fault cause =>
    if p.stops cause then { x with stopStep := some x.index, stopCause := some cause }
    else
      { x with
        continued := x.continued + 1
        index := x.index + 1
        firstContinued := x.firstContinued <|> some { step := x.index, cause, node := p.node, point := p.point } }

/-- The job outcome of a stop cause (R115). -/
def outcomeOfCause : Cause → JobOutcome
  | .loopDown => .loopDown
  | .bufferFault => .bufferFault
  | _ => .stepFault

/-- The run outcome of a job outcome: internal runs end OK, STEP_FAULT or LOOP_DOWN (R123). -/
def runOutcomeOf : JobOutcome → RunOutcome
  | .ok => .ok
  | .loopDown => .loopDown
  | _ => .stepFault

/-- The outcome of a context whose list has run to its end or whose step stopped it (R115). -/
def outcomeOf (x : Context) : JobOutcome :=
  match x.stopCause with
  | none => .ok
  | some cause => outcomeOfCause cause

/-- An internal run ends: its ending goes to its owner and its context becomes FREE (R123). -/
def endRun (c : CtxId) (s : State) : State :=
  let x := s.ctx c
  let e : RunEnding :=
    { outcome := runOutcomeOf (outcomeOf x), stepsDone := x.stepsDone, continued := x.continued,
      firstContinued := x.firstContinued, stopStep := x.stopStep, stopCause := x.stopCause, words := x.words }
  let s := freeContext c s
  match x.runOwner with
  | some (.attention key) => attentionRunEnds key e s
  | some (.slot k) => slotRunEnds k e s
  | none => s

/-- The run of steps is over: a ring job enters COMPLETING, an internal run ends (R115, R123). -/
def endJob (c : CtxId) (s : State) : State :=
  if isRing c then enterCompleting c (outcomeOf (s.ctx c)) s else endRun c s

/-- What starting a step or an operation of one comes to: the context waits (for a tag, a staging read or a timer), or the
step has ended. -/
inductive Begun where
  | waits (s : State)
  | ends (e : StepEnd) (s : State)

/-- The claim of the step's next operation; a loop state that does not permit it ends the step LOOP_DOWN (R46, R111). -/
def claimOperation (c : CtxId) (p : Step) (n : NodeId) (s : State) : Begun :=
  let op : Operation :=
    { owner := .context c, node := n
      command := some { op := p.kind.command, point := p.point, count := opCount p (s.ctx c),
                        immediate := if p.kind = .write ∧ p.source = .immediate then some p.immediate else none } }
  if permits s.loop.state .command then .waits (pushClaim op (s.modCtx c fun x => { x with state := .ready }))
  else .ends (.fault .loopDown) s

/-- The node check (R85). -/
def nodeCheck : NodeState → Option Cause
  | .present => none
  | .silent => some .nodeSilent
  | .absent | .incompatible => some .nodeAbsent

/-- The data check of a ring context's operation (R60, R61, R85). -/
def dataCheck (p : Step) (x : Context) : Option Cause :=
  if p.reads ∧ x.inLen - x.inCursor < 4 * opCount p x then some .inBufferFull
  else if p.usesOut ∧ x.outLen - x.outCursor < 4 * opCount p x then some .outBufferShort
  else none

/-- The staging read of a WRITE operation from the out-buffer (R61). DESIGN CHOICE (assumption 35): the buffer's address plus the
cursor is taken modulo 2^64. -/
def beginStaging (c : CtxId) (p : Step) (s : State) : State :=
  s.modCtx c fun x =>
    { x with state := .ready,
             reading := some (.staging (x.outAddr + BitVec.ofNat 64 x.outCursor) (4 * opCount p x)) }

/-- The next operation of a step: node check, data check, then the staging read or the claim (R85, R111). -/
def beginOperation (c : CtxId) (p : Step) (s : State) : Begun :=
  match nodeAt? p.node with
  | none => .ends (.fault .nodeAbsent) s
  | some n =>
    match nodeCheck (s.node n).state with
    | some cause => .ends (.fault cause) s
    | none =>
      if isRing c then
        match dataCheck p (s.ctx c) with
        | some cause => .ends (.fault cause) s
        | none => if p.usesOut then .waits (beginStaging c p s) else claimOperation c p n s
      else claimOperation c p n s

/-- The start of a step (R84, R92, R111): step progress as R84 gives, the loop check, a DELAY's pause, or its first operation. -/
def beginStep (c : CtxId) (p : Step) (s : State) : Begun :=
  let s := s.modCtx c fun x => { x with state := .ready, remaining := p.count, tries := 0, pause := none }
  if s.loop.state ≠ .running then .ends (.fault .loopDown) s
  else if p.kind = .delay then
    if p.interval = 0 then .ends .completed s
    else .waits (s.modCtx c fun x => { x with state := .paused, pause := some (.delay (s.timebase + 10 * p.interval)) })
  else beginOperation c p s

/-- Steps started one after another, from the context's step index, until one waits or the list has ended (R84, R111). The
fuel bounds the steps a list can hold (R97). -/
def runSteps : Nat → CtxId → State → State
  | 0, _, s => s
  | fuel + 1, c, s =>
    match currentStep s c with
    | none => endJob c s
    | some p =>
      match beginStep c p s with
      | .waits s => s
      | .ends e s =>
        let s := s.modCtx c (recordEnd p e)
        if (s.ctx c).stopCause.isSome then endJob c s else runSteps fuel c s

/-- Steps run from the context's step index. -/
def runList (c : CtxId) (s : State) : State := runSteps (Config.maxSteps + 1) c s

/-! ### The end of an operation -/

/-- The outcome of a pending outcome (R117). -/
def outcomeOfPending : Option Pending → JobOutcome
  | some .deadline => .deadline
  | some .ringDeleted => .ringDeleted
  | some .aborted | none => .aborted

/-- A ring job ends with its pending outcome, at the step index it has reached unless a stop step is recorded (R110, R116,
R118). -/
def endPending (c : CtxId) (s : State) : State :=
  let s := s.modCtx c fun x => { x with stopStep := x.stopStep <|> some x.index }
  enterCompleting c (outcomeOfPending (s.ctx c).pending) s

/-- A job in ABORTING, or a job going on, after its step has ended (R111, R115, R118). -/
def afterStep (c : CtxId) (s : State) : State :=
  if (s.ctx c).state = .aborting then endPending c s
  else if (s.ctx c).stopCause.isSome then endJob c s
  else runList c s

/-- The running step ends: staged words are discarded, the ending is recorded, and the job goes on as its state has it. -/
def endStep (c : CtxId) (e : StepEnd) (s : State) : State :=
  match currentStep s c with
  | none => s
  | some p => afterStep c (s.modCtx c fun x => recordEnd p e { x with staging := [] })

/-- The step's next operation, in a job that goes on; a job in ABORTING starts none (R118). -/
def nextOperation (c : CtxId) (p : Step) (s : State) : State :=
  if (s.ctx c).state = .aborting then endPending c s
  else
    match beginOperation c p s with
    | .waits s => s
    | .ends e s => endStep c e s

/-- An AWAIT's pause before its next try; a job in ABORTING makes none (R89, R118). -/
def awaitPause (c : CtxId) (p : Step) (s : State) : State :=
  if (s.ctx c).state = .aborting then endPending c s
  else s.modCtx c fun x => { x with state := .paused, pause := some (.await (s.timebase + 10 * p.interval)) }

/-- What a DONE comes to for its step, once its words are where they belong (R86 to R91). -/
inductive Verdict where
  | ended (e : StepEnd)
  | nextTry
  | nextChunk
deriving DecidableEq, Repr

/-- The chunk rule of BLOCK steps: a full chunk leads on, a short one ends the step by its end-on-short flag (R90, R91). DESIGN
CHOICE (assumption 41): a delivered count above the chunk's, which an early result alone can bring, is a full chunk. -/
def chunkVerdict (p : Step) (x : Context) (delivered : Nat) : Verdict :=
  if delivered < opCount p x then .ended (if p.endOnShort then .completed else .fault .shortBlock)
  else if x.remaining ≤ opCount p x then .ended .completed
  else .nextChunk

/-- The step's course after a DONE (R86 to R91). -/
def verdict (p : Step) (x : Context) (valid : Bool) (delivered : Nat) : Verdict :=
  match p.kind with
  | .read | .test => .ended (if p.requireValid && !valid then .fault .notValid else .completed)
  | .write | .pulse | .delay => .ended .completed
  | .await =>
    if valid then .ended .completed
    else if x.tries + 1 = p.limit then .ended (.fault .awaitExpired)
    else .nextTry
  | .blockRead => if p.requireValid && !valid then .ended (.fault .notValid) else chunkVerdict p x delivered
  | .blockWrite => chunkVerdict p x delivered

/-- The cursors after a DONE: read words are in the in-buffer, written words were taken from the out-buffer (R60, R61). -/
def moveCursors (c : CtxId) (p : Step) (delivered : Nat) (x : Context) : Context :=
  { x with
    inCursor := if isRing c && p.reads then x.inCursor + 4 * delivered else x.inCursor
    outCursor := if p.usesOut then x.outCursor + 4 * delivered else x.outCursor
    staging := [] }

/-- The step's progress after a DONE (R89, R90). -/
def progress (p : Step) (v : Verdict) (x : Context) : Context :=
  match v with
  | .nextTry => { x with tries := x.tries + 1 }
  | .nextChunk => { x with remaining := x.remaining - opCount p x }
  | .ended _ => x

/-- A DONE processed, its words being where they belong (R86 to R91, R112). -/
def finishDone (c : CtxId) (valid : Bool) (delivered : Nat) (s : State) : State :=
  match currentStep s c with
  | none => s
  | some p =>
    let v := verdict p (s.ctx c) valid delivered
    let s := s.modCtx c fun x => progress p v (moveCursors c p delivered x)
    match v with
    | .ended e => endStep c e s
    | .nextTry => awaitPause c p s
    | .nextChunk => nextOperation c p s

/-- The words a run keeps: the first 4 of an attention run, all of a cyclic run (R62). -/
def keepWords (x : Context) (words : List Word) : List Word :=
  match x.runOwner with
  | some (.attention _) => (x.words ++ words).take 4
  | _ => x.words ++ words

/-- A DONE taken: a ring context's read words are written to its in-buffer first, an internal run's go to its word store (R60,
R62, R112). A job in ABORTING stays there during the write. DESIGN CHOICE (assumption 35): the buffer's address plus the cursor is
taken modulo 2^64. -/
def takeDone (c : CtxId) (valid : Bool) (delivered : Nat) (data : List Word) (s : State) : State :=
  match currentStep s c with
  | none => s
  | some p =>
    if p.reads then
      if isRing c then
        if delivered = 0 then finishDone c valid 0 s
        else
          s.modCtx c fun x =>
            { x with
              state := if x.state = .aborting then .aborting else .issued
              inWrite := some
                { write := { addr := x.inAddr + BitVec.ofNat 64 x.inCursor, bytes := bytesOf (data.take delivered) },
                  valid, delivered } }
      else finishDone c valid delivered (s.modCtx c fun x => { x with words := keepWords x (data.take delivered) })
    else finishDone c valid delivered s

/-- An operation's outcome as its context receives it (R53, R59, R112). BUSY below the limit and DEFERRED leave the operation
with the window's backoff list or the deferral table. -/
inductive Outcome where
  | done (valid : Bool) (delivered : Nat) (data : List Word)
  | fault (cause : Cause)
  | busy
  | deferred
  | notPerformed
deriving DecidableEq, Repr

/-- The job states in which an operation of the job may be outstanding. -/
def JobState.hasOperation : JobState → Bool
  | .ready | .issued | .deferred | .paused | .aborting => true
  | .free | .admitting | .completing => false

/-- An outcome reaches a context (R112, R114, R118). -/
def deliver (c : CtxId) (o : Outcome) (s : State) : State :=
  if (s.ctx c).state.hasOperation then
    let s := s.modCtx c fun x => { x with deferredOp := none, pause := none }
    match o with
    | .done valid delivered data => takeDone c valid delivered data s
    | .fault cause => endStep c (.fault cause) s
    | .busy => s.modCtx c fun x => { x with state := .paused, pause := some .busy }
    | .deferred => s.modCtx c fun x => { x with state := .deferred }
    | .notPerformed => endPending c (s.modCtx c fun x => { x with staging := [] })
  else s

/-- The job engine is told that the loop is down: DELAY and AWAIT pauses end LOOP_DOWN (R92). A busy backoff ends with its
operation, in the window. -/
def pauseLoopDown (c : CtxId) (s : State) : State :=
  match (s.ctx c).state, (s.ctx c).pause with
  | .paused, some (.delay _) | .paused, some (.await _) => deliver c (.fault .loopDown) s
  | _, _ => s

/-- An internal run is handed a FREE internal context (R122). -/
def startRun (c : CtxId) (owner : RunOwner) (id : ListId) (s : State) : State :=
  let steps := (s.stored id).steps
  runList c (s.setCtx c { state := .ready, list := .stored id, stepCount := steps.length, runOwner := some owner })

end Sys2Proof.Machine
end

