-- ==== Sys2Proof/Machine/DeferralOps.lean ====
section
/-! DEFINITION. The deferral table's operations: reservation (R67), freeing (R39, R66), delivery of a collected result (R71),
orphaning (R74); and the withdrawal of operations (R49, R59). -/

namespace Sys2Proof.Machine

/-! ### Withdrawal (R49, R59) -/

/-- Remove the WAITING claims and BACKOFF operations that a test names: no sending is made (R49). -/
def withdrawQueued (p : Operation → Bool) (s : State) : State :=
  s.setWindow
    { s.window with
      claimsS := s.window.claimsS.filter fun o => !p o
      claimsI := s.window.claimsI.filter fun o => !p o
      claimsJ := s.window.claimsJ.filter fun o => !p o
      backoff := s.window.backoff.filter fun o => !p o.1 }

/-- Set the withdrawal flag of the transactions that hold a tag for an owner (R59). -/
def withdrawHeld (p : Operation → Bool) (s : State) : State :=
  s.setWindow
    { s.window with
      tags := s.window.tags.map fun t => t.map fun tr => if p tr.operation then { tr with withdrawn := true } else tr }

/-- An owner withdraws its operation, wherever it stands (R49, R59). -/
def withdraw (o : Owner) (s : State) : State :=
  withdrawHeld (fun op => op.owner = o) (withdrawQueued (fun op => op.owner = o) s)

/-! ### Entries -/

/-- The node of an entry (R66). -/
def DeferEntry.node? : DeferEntry → Option NodeId
  | .free => none
  | .reserved _ n .. | .waiting _ n .. => some n
  | .orphaned n .. | .cancelling n .. => some n

/-- The node an entry's operation is still kept at: WAITING, ORPHANED and CANCELLING entries count as outstanding (R39). -/
def DeferEntry.keptAt : DeferEntry → Option NodeId
  | .waiting _ n .. | .orphaned n .. | .cancelling n .. => some n
  | .free | .reserved .. => none

/-- An entry becomes FREE; the outstanding-deferral count of a node that kept its operation falls by one (R39, R66). -/
def freeEntry (d : DeferId) (s : State) : State :=
  let s' := s.setEntry d .free
  match (s.entry d).keptAt with
  | some n => s'.modNode n fun r => { r with outstanding := r.outstanding - 1 }
  | none => s'

/-- A deferral id enters or leaves a node's held-over set (R66). -/
def holdOver (n : NodeId) (d : DeferId) (b : Bool) (s : State) : State :=
  s.setHeldOver n (setBit (s.heldOver n) d.val b)

/-- The deferral entries RESERVED for a node (R51). -/
def reservedFor (s : State) (n : NodeId) : Nat :=
  s.deferral.entries.toList.countP fun e =>
    match e with
    | .reserved _ m .. => m == n
    | _ => false

/-- The entry a COMMAND to a node may reserve: the lowest-numbered FREE one whose id the node does not hold over (R67). -/
def freeEntryFor (s : State) (n : NodeId) : Option DeferId :=
  (List.finRange 16).find? fun d => s.entry d = .free && !(s.heldOver n).getLsbD d.val

/-- The reservation of a COMMAND at its grant, if it may be deferred (R51, R67). -/
def reservationFor (s : State) (op : Operation) : Option DeferId :=
  match op.owner with
  | .context c =>
    if isRing c ∧ (s.ctx c).allowDefer ∧ (s.node op.node).outstanding + reservedFor s op.node < Config.maxDeferred then
      freeEntryFor s op.node
    else none
  | _ => none

/-- Make a reservation (R67). -/
def reserve (d : DeferId) (op : Operation) (s : State) : State :=
  match op.owner, op.command with
  | .context c, some p => s.setEntry d (.reserved c op.node p.op p.count none)
  | _, _ => s

/-- The reservation of a transaction that ends in any way but a DEFERRED return goes back to FREE, with its early result
(R51, R68). -/
def dropReservation (r : Option DeferId) (s : State) : State :=
  match r with
  | some d => s.setEntry d .free
  | none => s

/-- A collected BUSY at the busy limit ends its step BUSY_LIMIT; below it the operation goes into BACKOFF (R57, R71, R93, R114).
A job in ABORTING starts no further operation: below the limit its operation was not performed (R118; assumption 16). Otherwise a
busy backoff in STOPPING ends LOOP_DOWN at once (R63, R92). The operation comes with its busy count already raised. -/
def busyOrLimit (c : CtxId) (op : Operation) (s : State) : State :=
  if s.params.busyLimit ≤ op.busy then deliver c (.fault .busyLimit) s
  else if (s.ctx c).state = .aborting then deliver c .notPerformed s
  else if s.loop.state = .stopping then deliver c (.fault .loopDown) s
  else
    deliver c .busy
      (s.setWindow { s.window with backoff := s.window.backoff ++ [(op, s.timebase + s.params.busyBackoff)] })

/-- A collected or early result reaches the owner as its operation's own outcome (R68, R71, R93), in a job that is ABORTING too
(R118). -/
def deliverResult (c : CtxId) (op : Option Operation) (r : DeferredResult) (s : State) : State :=
  match r.status with
  | .done => deliver c (.done r.valid r.delivered r.data) s
  | .busy =>
    match op with
    | some op => busyOrLimit c { op with busy := op.busy + 1, fresh := true } s
    | none => deliver c .notPerformed s
  | _ => deliver c (.fault .refused) s

/-- A WAITING entry that has lost its owner (R74): CANCELLING with a CANCEL claim while the loop is RUNNING and the node
PRESENT, ORPHANED while no CANCEL can be claimed, FREE and held over when the node is not PRESENT. -/
def orphanEntry (d : DeferId) (s : State) : State :=
  match s.entry d with
  | .waiting _ n op count _ =>
    if (s.node n).state = .present then
      if s.loop.state = .running then
        pushClaim { owner := .cancel d, node := n } (s.setEntry d (.cancelling n op count))
      else s.setEntry d (.orphaned n op count)
    else holdOver n d true (freeEntry d s)
  | _ => s

/-- The WAITING entries owned by a context. -/
def waitingOf (s : State) (c : CtxId) : List DeferId :=
  (List.finRange 16).filter fun d =>
    match s.entry d with
    | .waiting owner .. => owner == c
    | _ => false

/-- The job engine reports a job's ending to the table, which orphans its WAITING entry (R74). -/
def orphanOwned (c : CtxId) (s : State) : State := (waitingOf s c).foldl (fun s d => orphanEntry d s) s

/-- A COMMAND answered DEFERRED (R68): its entry becomes WAITING, or an early result held in it is delivered. A job in
ABORTING then ends, and its entry is orphaned (R118). -/
def entryDeferred (c : CtxId) (d : DeferId) (op : Operation) (s : State) : State :=
  match s.entry d with
  | .reserved _ _ _ _ (some early) => deliverResult c (some op) early (s.setEntry d .free)
  | .reserved _ n kind count none =>
    let s := s.setEntry d (.waiting c n kind count (s.timebase + 1000 * s.params.deferDeadline))
    let s := s.modNode n fun r => { r with outstanding := r.outstanding + 1 }
    if (s.ctx c).state = .aborting then endPending c (orphanEntry d (s.modCtx c fun x => { x with staging := [] }))
    else (deliver c .deferred s).modCtx c fun x => { x with deferredOp := some op }
  | _ => s

/-- A COLLECT of a node brings a result under an id (R71, R72): delivered to a WAITING owner, discarded for an ORPHANED or
CANCELLING entry, stored as an early result in a RESERVED one, and stale otherwise. -/
def collected (n : NodeId) (d : DeferId) (r : DeferredResult) (s : State) : State :=
  if (s.entry d).node? = some n then
    match s.entry d with
    | .waiting c .. => deliverResult c (s.ctx c).deferredOp r (freeEntry d s)
    | .reserved c m op count _ => s.setEntry d (.reserved c m op count (some r))
    | .orphaned .. | .cancelling .. => withdraw (.cancel d) (freeEntry d s)
    | .free => s
  else notifyNode n .staleResult 0 (holdOver n d false s)

/-- A CANCEL's ending while its entry is still CANCELLING with it (R76). -/
def cancelEnds (d : DeferId) (s : State) (freed held : Bool) : State :=
  match s.entry d with
  | .cancelling n op count =>
    if freed then
      if held then holdOver n d true (freeEntry d s) else freeEntry d s
    else s.setEntry d (.orphaned n op count)
  | _ => s

/-- A node's record leaves PRESENT (R77): its ORPHANED and CANCELLING entries become FREE with their ids held over, and their
CANCELs are withdrawn. -/
def entryNodeLeft (n : NodeId) (s : State) (d : DeferId) : State :=
  match s.entry d with
  | .orphaned m .. => if m = n then holdOver n d true (freeEntry d s) else s
  | .cancelling m .. => if m = n then withdraw (.cancel d) (holdOver n d true (freeEntry d s)) else s
  | _ => s

/-- A NODE RESET of a node returned DONE (R78): its entry becomes FREE; a WAITING owner's step faults NODE_RESET. -/
def entryNodeReset (n : NodeId) (s : State) (d : DeferId) : State :=
  match s.entry d with
  | .waiting c m .. => if m = n then deliver c (.fault .nodeReset) (freeEntry d s) else s
  | .orphaned m .. => if m = n then freeEntry d s else s
  | .cancelling m .. => if m = n then withdraw (.cancel d) (freeEntry d s) else s
  | _ => s

/-- The table is freed when the loop enters BROKEN or OFF or the part enters FATAL (R79, R80): a WAITING owner receives
LOOP_DOWN. -/
def entryLoopDown (s : State) (d : DeferId) : State :=
  match s.entry d with
  | .waiting c .. => deliver c (.fault .loopDown) (freeEntry d s)
  | _ => freeEntry d s

/-- Every entry freed for a loop gone down, lowest id first (R79, R80). -/
def tableLoopDown (s : State) : State :=
  let s := (List.finRange 16).foldl entryLoopDown s
  s.setNodes { s.nodes with records := s.nodes.records.map fun r => { r with outstanding := 0 } }

end Sys2Proof.Machine
end

