-- ==== Sys2Proof/Machine/LoopOps.lean ====
section
/-! DEFINITION. The loop controller's plain operations: handing a frame to the transmitter (R3), entering TRAINING and RUNNING
(R18 to R20), lock (R19), and the frames of each kind (R4, R50 to R52). -/

namespace Sys2Proof.Machine

/-- The sender of a frame (R3). -/
def frameSender (f : Frame) : FrameSender :=
  match f.kind with
  | .train | .rate => .loop
  | _ => .tag f.tag

/-- The record of a frame on the transit list, its transmission not yet ended (R3). -/
def transitRecord (f : Frame) : TransitRecord where
  sender := frameSender f
  tag := f.tag
  kind := f.kind
  addr := f.addr
  retry := f.retry
  seq := f.seq
  ended := none

/-- A frame's transmission begins: its record joins the transit list (R3). DESIGN CHOICE (assumption 38): R3 does not say when the
record joins it; it joins as the transmission begins, without its instant, and takes the instant when the transmission ends, so
that a return taken before then is classified. -/
def beginTransmission (f : Frame) (l : LoopController) : LoopController :=
  { l with sending := some f, transit := l.transit ++ [transitRecord f] }

/-- A frame handed to the loop controller: sent, or behind the frame being sent (R3). -/
def handFrame (f : Frame) (s : State) : State :=
  if s.loop.sending.isNone then s.setLoop (beginTransmission f s.loop)
  else s.setLoop { s.loop with waiting := s.loop.waiting ++ [f] }

/-- The transmitter stops, the transit list is cleared and the consecutive-lost count is 0 (R15, R21, R23). R16 does not name
the count for the entry to FATAL: that it becomes 0 there too is a DESIGN CHOICE (assumption 31). -/
def stopTransmitter (l : LoopController) : LoopController :=
  { l with sending := none, waiting := [], transit := [], lost := 0 }

/-- A TRAIN frame (R5, R19, R201). -/
def trainFrame : Frame := { kind := .train, addr := 31, data := trainingPattern }

/-- A RATE frame carrying a rate code (R5, R20, R201). -/
def rateFrame (r : RateCode) : Frame := { kind := .rate, addr := 31, data := [BitVec.ofNat 32 r.code] }

/-- TRAINING entered at a rate: count 0, the training timer runs for 50 ms, and the first TRAIN frame is sent (R18 to R20). -/
def enterTraining (rate : RateCode) (s : State) : State :=
  handFrame trainFrame
    (s.setLoop
      { s.loop with
        state := .training, rate, lost := 0, trainingTimer := some (s.timebase + Config.trainingTime), agreed := none })

/-- A start request in OFF or BROKEN, and the retrain timer's expiry (R18, R22): rate code 1, rate-switch flag clear, TRAINING. -/
def startRequest (s : State) : State :=
  enterTraining .r1 (s.setLoop { s.loop with retrainTimer := none, rateSwitched := false })

/-- The detail of a LOOP START that ends OK: PRESENT records in bits 0-7, rate code in bits 8-15 (R152, spec/11). -/
def runningDetail (s : State) : Nat := presentCount s + 256 * s.loop.rate.code

/-- The loop enters RUNNING (R20): its notice, the waiting slots (R184), and a waiting LOOP START ends OK (R152). DESIGN CHOICE
(assumption 14): the notices of the waiting slots join the queue behind the loop's own, slot 0's first; R20 and R184 give no order
among them. -/
def enterRunning (s : State) : State :=
  let s := notifyLoop .running (s.setLoop { s.loop with state := .running })
  let s := (List.finRange 8).foldl (fun s k => slotLoopRunning k s) s
  if adminWait s = some .loopStart then endAdmin .ok (some (runningDetail s)) s else s

/-- A census claim for the next address not yet claimed (R27). -/
def claimNextCensus (s : State) : State :=
  match s.nodes.census with
  | none => s
  | some run =>
    if h : run.claimed < 30 then
      pushClaim { owner := .census ⟨run.claimed, h⟩, node := ⟨run.claimed, h⟩ }
        (s.setNodes { s.nodes with census := some { run with claimed := run.claimed + 1 } })
    else s

/-- A census begins: claims for addresses 1 and 2 (R27). -/
def beginCensus (byCommand : Bool) (s : State) : State :=
  claimNextCensus
    (claimNextCensus (s.setNodes { s.nodes with census := some { byCommand, claimed := 0, ended := 0 } }))

/-- Lock (R19): the training timer stops, the sequence bits, doubt flags and held-over sets are cleared (R44, R79), and the
census begins. -/
def lock (s : State) : State :=
  let s := s.setLoop { s.loop with state := .census, trainingTimer := none }
  let s := s.setNodes { s.nodes with records := s.nodes.records.map fun r => { r with seq := 0 } }
  let s := s.setWindow { s.window with doubt := Vector.replicate 30 0 }
  let s := s.setDeferral { s.deferral with heldOver := Vector.replicate 30 0 }
  beginCensus false s

/-- The RATE frame has been classified (R20): the rate code rises and TRAINING starts again. -/
def switchRate (s : State) : State :=
  match s.loop.agreed with
  | none => s
  | some rate => enterTraining rate (s.setLoop { s.loop with rateSwitched := true })

/-- The highest rate code that every PRESENT record supports; the current code when no record is PRESENT (R31). -/
def agreedRate (s : State) : RateCode :=
  let present := s.nodes.records.toList.filter fun r => r.state == .present
  let all (c : RateCode) : Bool := present.all fun r => (r.identity.map fun i => i.supports c).getD false
  if present.isEmpty then s.loop.rate
  else if all .r3 then .r3
  else if all .r2 then .r2
  else if all .r1 then .r1
  else s.loop.rate

/-- The node unit hands over the agreed rate (R20): one RATE frame, or RUNNING. -/
def takeAgreedRate (agreed : RateCode) (s : State) : State :=
  if s.loop.rate.code < agreed.code ∧ s.loop.rateSwitched = false then
    handFrame (rateFrame agreed) (s.setLoop { s.loop with agreed := some agreed })
  else enterRunning s

/-! ### Building transaction frames (R50 to R52) -/

/-- The words a COMMAND carries (R50). -/
def commandData (s : State) (owner : Owner) (p : CommandPart) : List Word :=
  match p.op, p.immediate with
  | .read, _ => List.replicate p.count 0
  | .write, some w => [w]
  | .write, none => match owner with
    | .context c => (s.ctx c).staging
    | _ => []
  | .pulse, _ | .test, _ => []

/-- A transaction's own frame, as a first sending (R50, R52): a MASK carries the desired mask as it now stands (assumption 37). -/
def ownFrame (s : State) (op : Operation) (t : Tag) (seq : Bool) (reservation : Option DeferId) : Frame :=
  let f : Frame := { kind := kindOf op.owner, tag := t, seq, addr := nodeAddr op.node }
  match op.owner with
  | .context _ =>
    match op.command with
    | some p =>
      { f with
        point := p.point, op := some p.op, count := p.count, mayDefer := reservation.isSome,
        deferId := (reservation.map Fin.val).getD 0, data := commandData s op.owner p }
    | none => f
  | .query _ => { f with data := [0] }
  | .mask n => { f with data := [(desiredMask s.attention.table n).setWidth 32] }
  | .collect _ => { f with data := List.replicate 16 0 }
  | .cancel d => { f with deferId := d.val }
  | .census _ => { f with data := List.replicate 3 0 }
  | .nodeReset _ => f

/-- A sequence probe: a TEST of point 0 with the pair's bit, the retry flag clear (R45). -/
def probeFrame (op : Operation) (t : Tag) (seq : Bool) : Frame :=
  { kind := .command, tag := t, seq, addr := nodeAddr op.node, op := some .test }

end Sys2Proof.Machine
end

