-- ==== Sys2Proof/Machine/NodeOps.lean ====
section
/-! DEFINITION. The node unit's operations: a node leaving PRESENT (R26, R77, R178), the silence count (R33), census results
and the census's end (R28 to R32), a NODE RESET's ending (R35, R36, R78, R179), and a MASK's ending (R38). -/

namespace Sys2Proof.Machine

/-- A record leaves PRESENT (R26): the deferral table frees what R77 gives, and the loop service withdraws the node's waiting
QUERY and MASK operations (R178). -/
def nodeLeft (n : NodeId) (s : State) : State :=
  let s := (List.finRange 16).foldl (entryNodeLeft n) s
  withdrawQueued (fun op => op.owner = .query n ∨ op.owner = .mask n) s

/-- A good return of a transaction addressed to a PRESENT node changes its untouched count; at the silence threshold the node
becomes SILENT (R33). -/
def countReturn (n : NodeId) (untouched : Bool) (s : State) : State :=
  let r := s.node n
  if r.state ≠ .present then s
  else if untouched then
    if s.params.silence ≤ r.untouched + 1 then
      nodeLeft n (notifyNode n .silence 0 (s.setNode n { r with untouched := r.untouched + 1, state := .silent }))
    else s.setNode n { r with untouched := r.untouched + 1 }
  else s.setNode n { r with untouched := 0 }

/-- The query-refused flag of a node (R168). -/
def setQueryFlag (n : NodeId) (b : Bool) (s : State) : State := s.setQueryRefused (setBit s.queryRefused n.val b)

/-! ### Census (R27 to R32) -/

/-- The record after a DONE with a well-formed identity (R28). -/
def foundRecord (r : NodeRecord) (i : Identity) (rate : RateCode) : NodeRecord :=
  if i.supports rate then { r with state := .present, identity := some i, untouched := 0, dirty := true }
  else { r with state := .incompatible, identity := some i }

/-- Whether a different node now answers at the address (R30). -/
def identityChanged (r : NodeRecord) (i : Identity) : Bool :=
  match r.identity with
  | some old => old.serial != i.serial
  | none => false

/-- The notice of a census result, and the news of a record that has left PRESENT (R26, R28, R30). -/
def censusNews (n : NodeId) (before : NodeState) (changed : Bool) (s : State) : State :=
  let after := (s.node n).state
  let s :=
    if changed then notifyNode n .identityChanged 0 s
    else if before ≠ after then notifyNode n .census 0 s
    else s
  if before = .present ∧ after ≠ .present then nodeLeft n s else s

/-- A census finding with a well-formed identity record (R28, R30); a PRESENT finding clears the query-refused flag (R168). -/
def censusFound (n : NodeId) (i : Identity) (s : State) : State :=
  let r := s.node n
  let s := s.setNode n (foundRecord r i s.loop.rate)
  let s := if (s.node n).state = .present then setQueryFlag n false s else s
  censusNews n r.state (identityChanged r i) s

/-- An address that returned UNTOUCHED is ABSENT (R28). -/
def censusEmpty (n : NodeId) (s : State) : State :=
  let r := s.node n
  censusNews n r.state false (s.setNode n { r with state := .absent })

/-- A failed census transaction (R29): a PRESENT or SILENT record becomes SILENT. -/
def censusFailed (n : NodeId) (s : State) : State :=
  let r := s.node n
  match r.state with
  | .present | .silent => censusNews n r.state false (s.setNode n { r with state := .silent })
  | .absent | .incompatible => s

/-- The census is done (R31): its report goes to the loop controller or to the admin unit. -/
def censusDone (byCommand : Bool) (s : State) : State :=
  let s := s.setNodes { s.nodes with census := none }
  if byCommand then
    if adminWait s = some .census then endAdmin .ok (some (presentCount s)) s else s
  else takeAgreedRate (agreedRate s) s

/-- A census transaction's end: the next claim, and the census's end with the thirtieth (R27). -/
def censusStep (s : State) : State :=
  match s.nodes.census with
  | none => s
  | some run =>
    let s := claimNextCensus (s.setNodes { s.nodes with census := some { run with ended := run.ended + 1 } })
    if run.ended + 1 = 30 then censusDone run.byCommand s else s

/-- A census is abandoned (R32); a waiting CENSUS command ends LOOP_DOWN with the addresses ended (R154). Claims waiting and
operations in BACKOFF are withdrawn. -/
def abandonCensus (s : State) : State :=
  match s.nodes.census with
  | none => s
  | some run =>
    let s := s.setNodes { s.nodes with census := none }
    let s := withdrawQueued (fun op => kindOf op.owner = .census) s
    if run.byCommand ∧ adminWait s = some .census then endAdmin .loopDown (some run.ended) s else s

/-! ### NODE RESET and MASK endings -/

/-- A NODE RESET returned DONE (R36): the record, the deferral table (R78), the loop service and attention unit (R179). The
entries naming the node are taken from deferral id 0 up, which is the order in which their owners receive NODE_RESET (DESIGN
CHOICE, assumption 14: R36 and R78 give none). -/
def nodeResetDone (n : NodeId) (s : State) : State :=
  let s := s.modNode n fun r => { r with state := .present, untouched := 0, applied := 0xFF, dirty := true }
  let s := (List.finRange 16).foldl (entryNodeReset n) s
  let s := s.setHeldOver n 0
  let s := s.modNode n fun r => { r with outstanding := 0 }
  let s := withdrawQueued (fun op => op.owner = .query n) s
  notifyNode n .reset 0 (setQueryFlag n false s)

/-- A NODE RESET's outcome goes to the admin unit (R35, R155). -/
def nodeResetEnds (outcome : AdminOutcome) (s : State) : State :=
  if adminWait s = some .nodeReset then endAdmin outcome none s else s

/-- A MASK returned DONE (R38): the mask carried is the applied mask; the flag clears when it equals the desired mask now. -/
def maskDone (n : NodeId) (carried : Byte) (s : State) : State :=
  s.modNode n fun r =>
    { r with applied := carried, dirty := if carried = desiredMask s.attention.table n then false else r.dirty }

/-- A MASK was REFUSED: the flag clears (R38). -/
def maskRefused (n : NodeId) (s : State) : State := s.modNode n fun r => { r with dirty := false }

end Sys2Proof.Machine
end

