-- ==== Sys2Proof/Machine/WindowOps.lean ====
section
/-! DEFINITION. The window controller's operations: an operation's ending at its owner (R53, R73, R76, R169), resends and
returns (R43, R45, R53 to R59, R63), and the tag arbiter (R46 to R48). -/

namespace Sys2Proof.Machine

/-! ### Endings -/

/-- How an operation ends (R53, R55, R57, R58, R59, R63, R64). `good` is a final good return; `nodeState` a node state that
forbids the next sending. -/
inductive Ending where
  | good (f : Frame)
  | busyLimit
  | corruptLimit
  | nodeState
  | loopDown
  | notPerformed
deriving DecidableEq, Repr

/-- The cause of a node state that forbids a sending (R48, R58). -/
def leftCause (s : State) (n : NodeId) : Cause :=
  if (s.node n).state = .silent then .nodeSilent else .nodeAbsent

/-- A context's outcome for an ending that is no DONE, DEFERRED or "not performed" (R53). -/
def endingCause (s : State) (n : NodeId) : Ending → Cause
  | .good f => if f.status = .refused then .refused else .noTaker
  | .busyLimit => .busyLimit
  | .corruptLimit => .corruptLimit
  | .nodeState => leftCause s n
  | .loopDown | .notPerformed => .loopDown

/-- An ending at a context (R53, R112). -/
def contextEnds (c : CtxId) (n : NodeId) (e : Ending) (s : State) : State :=
  match e with
  | .notPerformed => deliver c .notPerformed s
  | .good f =>
    if f.status = .done then deliver c (.done f.valid f.delivered f.data) s
    else deliver c (.fault (endingCause s n e)) s
  | _ => deliver c (.fault (endingCause s n e)) s

/-- An ending of a QUERY (R169). -/
def queryEnds (n : NodeId) (e : Ending) (s : State) : State :=
  match e with
  | .good f =>
    if f.status = .done then takeSourceSet n ((f.data.getD 0 0).setWidth 8) s
    else if f.status = .refused then setQueryFlag n true s
    else s
  | _ => s

/-- An ending of a MASK that carried a mask (R38). -/
def maskEnds (n : NodeId) (carried : Byte) (e : Ending) (s : State) : State :=
  match e with
  | .good f =>
    if f.status = .done then maskDone n carried s
    else if f.status = .refused then maskRefused n s
    else s
  | _ => s

/-- Whether a COLLECT reply hands a result over (R10, R53). -/
def Frame.handsResult (f : Frame) : Bool := f.status == .done || f.status == .busy || f.status == .refused

/-- An ending of a COLLECT (R71 to R73). -/
def collectEnds (n : NodeId) (e : Ending) (s : State) : State :=
  match e with
  | .good f =>
    if h : f.handsResult ∧ f.replyId < 16 then
      collected n ⟨f.replyId, h.2⟩
        { status := f.status, valid := f.valid, delivered := f.delivered, data := f.data } s
    else s
  | _ => s

/-- An ending of a CANCEL (R76). A withdrawn one has no entry; a good DONE or UNKNOWN takes its id out of the held-over set. -/
def cancelOpEnds (d : DeferId) (n : NodeId) (withdrawn : Bool) (e : Ending) (s : State) : State :=
  match e with
  | .good f =>
    if f.status = .done ∨ f.status = .unknown then
      if withdrawn then holdOver n d false s else cancelEnds d s true false
    else if withdrawn then s
    else cancelEnds d s true true
  | .loopDown => if withdrawn then s else cancelEnds d s false false
  | .notPerformed => s
  | .busyLimit | .corruptLimit | .nodeState => if withdrawn then s else cancelEnds d s true true

/-- An ending of the CENSUS of an address (R28, R29); one of a census that was abandoned is not applied (R32). -/
def censusEnds (n : NodeId) (e : Ending) (s : State) : State :=
  if s.nodes.census.isNone then s
  else
    match e with
    | .good f =>
      if f.status = .untouched then censusStep (censusEmpty n s)
      else if f.status = .done ∧ (parseIdentity f.data).wellFormed then
        censusStep (censusFound n (parseIdentity f.data) s)
      else censusStep (censusFailed n s)
    | .busyLimit | .corruptLimit => censusStep (censusFailed n s)
    | .nodeState | .loopDown | .notPerformed => s

/-- An ending of a NODE RESET (R35). DESIGN CHOICE (assumption 39): a final good return is the ending it is in STOPPING too, by
R53 and R63, where R35's row for STOPPING gives LOOP_DOWN and an unchanged record. -/
def resetEnds (n : NodeId) (e : Ending) (s : State) : State :=
  match e with
  | .good f =>
    if f.status = .done then nodeResetEnds .ok (nodeResetDone n s)
    else if f.status = .refused then nodeResetEnds .refused s
    else nodeResetEnds .noTaker s
  | .busyLimit => nodeResetEnds .busyLimit s
  | .corruptLimit => nodeResetEnds .corruptLimit s
  | .nodeState => nodeResetEnds .noTaker s
  | .loopDown | .notPerformed => nodeResetEnds .loopDown s

/-- An operation ends, and its owner is told (R53). `carried` is the mask of a MASK's frame. -/
def ownerEnds (op : Operation) (carried : Byte) (withdrawn : Bool) (e : Ending) (s : State) : State :=
  match op.owner with
  | .context c => contextEnds c op.node e s
  | .query n => queryEnds n e s
  | .mask n => maskEnds n carried e s
  | .collect n => collectEnds n e s
  | .cancel d => cancelOpEnds d op.node withdrawn e s
  | .census n => censusEnds n e s
  | .nodeReset n => resetEnds n e s

/-- A transaction ends: its tag becomes FREE, its reservation goes back, and its owner is told (R41, R51, R53). -/
def endTransaction (t : Tag) (tr : Transaction) (e : Ending) (s : State) : State :=
  ownerEnds tr.operation ((tr.frame.data.getD 0 0).setWidth 8) tr.withdrawn e
    (dropReservation tr.reservation (s.setTag t none))

/-- A transaction ends with its last sending unresolved: its pair becomes doubtful (R44). -/
def endDoubtful (t : Tag) (tr : Transaction) (e : Ending) (s : State) : State :=
  endTransaction t tr e (s.setDoubt tr.operation.node t true)

/-! ### Resends (R45, R55, R56) -/

/-- The kind of the frame a transaction has on the loop: a sequence probe is a COMMAND (R45). -/
def sentKind (tr : Transaction) : FrameKind := if tr.probe then .command else kindOf tr.operation.owner

/-- The node states that permit a kind (R48). -/
def stateAllows (kind : FrameKind) (st : NodeState) : Bool :=
  match kind with
  | .census => true
  | .nodeReset => st == .present || st == .silent
  | _ => st == .present

/-- The same frame sent again on the same tag: with the retry flag set, but clear on a doubtful pair, that is for a probe and
for the harmless sendings of R45. `corrupt` counts the resend against the CRC retry limit (R55, R56). -/
def resend (t : Tag) (tr : Transaction) (corrupt : Bool) (s : State) : State :=
  let retry := !s.doubtful tr.operation.node t
  let f := { tr.frame with retry }
  handFrame f
    (s.setTag t
      (some { tr with retry, frame := f, crc := if corrupt then tr.crc + 1 else tr.crc, afterLost := !corrupt }))

/-- A COLLECT's or CANCEL's own frame is still resent in STOPPING after a CORRUPT return (R23, R63). -/
def resentInStopping (tr : Transaction) : Bool :=
  !tr.probe && (kindOf tr.operation.owner == .collect || kindOf tr.operation.owner == .cancel)

/-- A sending classified CORRUPT, or treated as CORRUPT, by the conditions of R55 in their order. -/
def corruptReturn (t : Tag) (tr : Transaction) (s : State) : State :=
  if tr.withdrawn then endDoubtful t tr .notPerformed s
  else if s.loop.state = .stopping ∧ ¬ resentInStopping tr then endDoubtful t tr .loopDown s
  else if ¬ stateAllows (sentKind tr) (s.node tr.operation.node).state then endDoubtful t tr .nodeState s
  else if s.params.crcLimit ≤ tr.crc then endDoubtful t tr .corruptLimit s
  else resend t tr true s

/-- A sending classified LOST that does not break the loop (R56, R63). DEDUCED (assumption 16): one of a withdrawn operation in
STOPPING is "not performed" (R59), where R63 has a LOST there end LOOP_DOWN; the withdrawal goes first, as R55 and R56 order it. -/
def lostReturn (t : Tag) (tr : Transaction) (s : State) : State :=
  if tr.withdrawn then endDoubtful t tr .notPerformed s
  else if s.loop.state = .stopping then endDoubtful t tr .loopDown s
  else if ¬ stateAllows (sentKind tr) (s.node tr.operation.node).state then endDoubtful t tr .nodeState s
  else resend t tr false s

/-! ### Good returns (R43, R45, R53, R54, R57) -/

/-- The delivered count of a COMMAND reply is impossible (R54). -/
def impossibleCount (op : Option CommandOp) (count delivered : Nat) : Bool :=
  match op with
  | some .read | some .write => count < delivered
  | _ => delivered != 0

/-- A collected result that fails the checks of R71 against the WAITING entry it names. -/
def impossibleResult (s : State) (n : NodeId) (f : Frame) : Bool :=
  if h : f.replyId < 16 then
    match s.entry ⟨f.replyId, h⟩ with
    | .waiting _ m op count _ => m == n && (count < f.delivered || impossibleCount (some op) count f.delivered)
    | _ => false
  else false

/-- A reply that cannot be: it is treated as CORRUPT (R54, R71). -/
def impossibleReply (s : State) (tr : Transaction) (f : Frame) : Bool :=
  match f.status with
  | .invalid => true
  | status =>
    match sentKind tr with
    | .census | .query | .mask | .nodeReset | .train | .rate => status == .deferred || status == .unknown
    | .cancel => status == .deferred || status == .refused
    | .command =>
      status == .unknown
        || (status == .deferred && (!tr.frame.mayDefer || f.replyId != tr.frame.deferId))
        || impossibleCount tr.frame.op tr.frame.count f.delivered
    | .collect =>
      status == .unknown
        || (f.handsResult && (16 < f.delivered || 15 < f.replyId || impossibleResult s tr.operation.node f))

/-- The statuses a node records, at which the pair's sequence bit toggles (R43). -/
def recorded (kind : FrameKind) (status : ReplyStatus) : Bool :=
  match kind with
  | .collect => status != .untouched
  | .command => status == .done || status == .deferred || status == .refused
  | .cancel => status == .done || status == .unknown
  | _ => status == .done || status == .refused

/-- The pair's sequence bit toggles, and its doubt flag clears, at a status the node records (R43, R44, R45): a doubtful pair
carries only probes and harmless sendings. -/
def toggle (n : NodeId) (t : Tag) (s : State) : State :=
  let s := s.modNode n fun r => { r with seq := setBit r.seq t.val (!r.seq.getLsbD t.val) }
  s.setDoubt n t false

/-- The sequence bit and doubt flags after a final good return; a NODE RESET's DONE clears the doubt of all the node's pairs
(R43, R44). -/
def settlePair (kind : FrameKind) (n : NodeId) (t : Tag) (status : ReplyStatus) (s : State) : State :=
  let s := if recorded kind status then toggle n t s else s
  if kind = .nodeReset ∧ status = .done then s.setWindow { s.window with doubt := vset s.window.doubt n 0 } else s

/-- The silence count of a good return; a CENSUS is not counted (R33). -/
def countKind (kind : FrameKind) (n : NodeId) (status : ReplyStatus) (s : State) : State :=
  if kind = .census then s else countReturn n (status == .untouched) s

/-- A BUSY return of any kind but COLLECT (R57, R59, R63): the tag and reservation are freed, and the operation ends or goes
into BACKOFF with its busy count raised. Withdrawal and STOPPING come before the busy limit (assumption 16). DEDUCED (assumption
36): the BUSY of a COLLECT's sequence probe is one of these too, by R45 and R57, and at the busy limit it ends the COLLECT, with no
effect on the table; R73 says that a COLLECT never ends BUSY_LIMIT. -/
def busyReturn (t : Tag) (tr : Transaction) (s : State) : State :=
  let op := { tr.operation with busy := tr.operation.busy + 1 }
  if tr.withdrawn then endTransaction t tr .notPerformed s
  else if s.loop.state = .stopping then endTransaction t tr .loopDown s
  else if s.params.busyLimit ≤ op.busy then endTransaction t tr .busyLimit s
  else
    let s := dropReservation tr.reservation (s.setTag t none)
    let s := s.setWindow { s.window with backoff := s.window.backoff ++ [(op, s.timebase + s.params.busyBackoff)] }
    match op.owner with
    | .context c => deliver c .busy s
    | _ => s

/-- A final good return, taken whole (R53): a COMMAND answered DEFERRED goes on in its entry (R68). -/
def finalReturn (t : Tag) (tr : Transaction) (f : Frame) (s : State) : State :=
  match tr.operation.owner, tr.reservation, f.status with
  | .context c, some d, .deferred => entryDeferred c d tr.operation (s.setTag t none)
  | _, _, _ => endTransaction t tr (.good f) s

/-- The owner's own frame after a probe: a first sending with the new bit (R45). The node's state is checked as for any frame
the window controller issues (R26; assumption 20). The frame is built now (R50, R52). DEDUCED (assumption 37): a MASK so carries
the desired mask as it stands after the probe, where R176 speaks of the frame built at grant. -/
def sendOwnFrame (t : Tag) (tr : Transaction) (s : State) : State :=
  if stateAllows (kindOf tr.operation.owner) (s.node tr.operation.node).state then
    let seq := (s.node tr.operation.node).seq.getLsbD t.val
    let f := ownFrame s tr.operation t seq tr.reservation
    handFrame f (s.setTag t (some { tr with seq, retry := false, crc := 0, probe := false, afterLost := false, frame := f }))
  else endTransaction t tr .nodeState s

/-- A good return of a sequence probe (R45, R57, R59, R63). A withdrawn operation's probe ends "not performed" in STOPPING
too: the withdrawal goes first, as R55 orders it for a resend (DEDUCED, assumption 16). -/
def probeReturn (t : Tag) (tr : Transaction) (f : Frame) (s : State) : State :=
  if f.status = .busy then busyReturn t tr s
  else if tr.withdrawn then endTransaction t tr .notPerformed s
  else if f.status = .untouched then endTransaction t tr (.good f) s
  else if s.loop.state = .stopping then endTransaction t tr .loopDown s
  else sendOwnFrame t tr s

/-- A good return of a transaction's sending (R53, R54). -/
def goodReturn (t : Tag) (tr : Transaction) (f : Frame) (s : State) : State :=
  if impossibleReply s tr f then corruptReturn t tr s
  else
    let kind := sentKind tr
    let n := tr.operation.node
    let s := countKind kind n f.status (settlePair kind n t f.status s)
    if tr.probe then probeReturn t tr f s
    else if f.status = .busy ∧ kind ≠ .collect then busyReturn t tr s
    else finalReturn t tr f s

/-! ### The tag arbiter (R46 to R48) -/

/-- The tags that are FREE, lowest first (R47). -/
def freeTags (s : State) : List Tag := (List.finRange 8).filter fun t => (s.tag t).isNone

/-- The tag a claim is given (R47): the lowest FREE one whose pair with the node is not doubtful, else the lowest FREE one. -/
def chooseTag (s : State) (n : NodeId) : Option Tag :=
  ((freeTags s).find? fun t => !s.doubtful n t) <|> (freeTags s).head?

/-- Whether a transaction addressed to a node holds a tag. -/
def nodeHeld (s : State) (n : NodeId) : Bool :=
  s.window.tags.toList.any fun t => match t with
    | some tr => tr.operation.node == n
    | none => false

/-- Whether an operation with a property exists, WAITING, HOLDING or in BACKOFF (R42). -/
def operationExists (s : State) (p : Operation → Bool) : Bool :=
  s.window.claimsS.any p || s.window.claimsI.any p || s.window.claimsJ.any p || s.window.backoff.any (fun o => p o.1)
    || s.window.tags.toList.any fun t => match t with
      | some tr => p tr.operation
      | none => false

/-- A NODE RESET claim for a SILENT node waits while every FREE tag is doubtful for it and one of its 8 pairs is not (R47). -/
def resetMustWait (s : State) (n : NodeId) : Bool :=
  (s.node n).state == .silent && (freeTags s).all (fun t => s.doubtful n t)
    && (List.finRange 8).any fun t => !s.doubtful n t

/-- Whether a claim is grantable in the present loop state (R47). -/
def grantable (s : State) (op : Operation) : Bool :=
  permits s.loop.state (kindOf op.owner) &&
    match op.owner with
    | .nodeReset n => !nodeHeld s n && !resetMustWait s n
    | _ => !operationExists s fun o => o.owner = .nodeReset op.node

/-- The oldest claim of a queue that a test names, and the queue without it. -/
def takeFirst (p : Operation → Bool) : List Operation → Option (Operation × List Operation)
  | [] => none
  | o :: rest =>
    if p o then some (o, rest)
    else match takeFirst p rest with
      | some (x, rest') => some (x, o :: rest')
      | none => none

/-- The claim the arbiter chooses, taken out of its queue, with the turn set by a grant to class I or J (R47). -/
def chooseClaim (s : State) : Option (Operation × Window) :=
  let w := s.window
  match takeFirst (grantable s) w.claimsS with
  | some (o, rest) => some (o, { w with claimsS := rest })
  | none =>
    match takeFirst (grantable s) w.claimsI, takeFirst (grantable s) w.claimsJ with
    | none, none => none
    | some (o, rest), none => some (o, { w with claimsI := rest, turn := .classJ })
    | none, some (o, rest) => some (o, { w with claimsJ := rest, turn := .classI })
    | some (i, restI), some (j, restJ) =>
      match w.turn with
      | .classI => some (i, { w with claimsI := restI, turn := .classJ })
      | .classJ => some (j, { w with claimsJ := restJ, turn := .classI })

/-- Whether a transaction on a tag must send a sequence probe first (R45). -/
def needsProbe (s : State) (op : Operation) (t : Tag) : Bool :=
  s.doubtful op.node t &&
    match op.owner with
    | .census _ => false
    | .nodeReset n => (s.node n).state == .present
    | _ => true

/-- A claim granted a tag (R47, R48, R51): the transaction is made and its first frame handed over; its context, if it has one, is
ISSUED. -/
def holdTag (op : Operation) (t : Tag) (s : State) : State :=
  let seq := (s.node op.node).seq.getLsbD t.val
  let reservation := reservationFor s op
  let s := match reservation with
    | some d => reserve d op s
    | none => s
  let probe := needsProbe s op t
  let f := if probe then probeFrame op t seq else ownFrame s op t seq reservation
  let s := handFrame f (s.setTag t (some { operation := op, seq, reservation, probe, frame := f }))
  match op.owner with
  | .context c => s.modCtx c fun x => { x with state := .issued }
  | _ => s

/-- One grant of the tag arbiter, if one can be made: the node check of R48 ends the operation with the tag unused when the
node's state has changed. -/
def grantOne (s : State) : Option State :=
  match chooseClaim s with
  | none => none
  | some (op, w) =>
    match chooseTag s op.node with
    | none => none
    | some t =>
      let s := s.setWindow w
      if stateAllows (kindOf op.owner) (s.node op.node).state then some (holdTag op t s)
      else some (ownerEnds op 0 false .nodeState s)

/-- The place among the claims that one event makes for one node (R46: a node's QUERY before its COLLECT; the rest is
assumption 9). -/
def claimRank : Owner → Nat
  | .census _ => 0
  | .query _ => 1
  | .collect _ => 2
  | .mask _ => 3
  | .cancel _ => 4
  | .nodeReset _ => 5
  | .context _ => 6

/-- Whether a claim goes before another that the same event made (R46). -/
def claimBefore (a b : Operation) : Bool :=
  a.node < b.node || (a.node == b.node && claimRank a.owner < claimRank b.owner)

/-- A claim put in its place among the claims one event makes (R46). -/
def insertClaim (o : Operation) : List Operation → List Operation
  | [] => [o]
  | x :: rest => if claimBefore o x then o :: x :: rest else x :: insertClaim o rest

/-- A queue in which the claims of the event being taken stand in their order, behind the older ones (R46). -/
def orderQueue (q : List Operation) : List Operation :=
  q.filter (fun o => !o.fresh)
    ++ ((q.filter (·.fresh)).foldl (fun out o => insertClaim o out) []).map fun o => { o with fresh := false }

/-- The claims of the event being taken are put in their order, if there are any (R46). -/
def orderClaims (s : State) : Option State :=
  let w := s.window
  if w.claimsS.any (·.fresh) || w.claimsI.any (·.fresh) || w.claimsJ.any (·.fresh) then
    some (s.setWindow
      { w with claimsS := orderQueue w.claimsS, claimsI := orderQueue w.claimsI, claimsJ := orderQueue w.claimsJ })
  else none

end Sys2Proof.Machine
end

