-- ==== Sys2Proof/Machine/LoopDown.lean ====
section
/-! DEFINITION. The loop going down: the window emptied (R64) or kept for its returns (R63), a break (R21), a failed training
(R19), a stop (R23), and FATAL (R16, R138). -/

namespace Sys2Proof.Machine

/-! ### The window -/

/-- The operations that hold no tag: WAITING by class, then in BACKOFF (R42). -/
def queuedOps (w : Window) : List Operation := w.claimsS ++ w.claimsI ++ w.claimsJ ++ w.backoff.map Prod.fst

/-- The transactions that hold a tag, lowest tag first (R41). -/
def heldTransactions (w : Window) : List Transaction := w.tags.toList.filterMap id

/-- A transaction's owner receives LOOP_DOWN (R64). -/
def transactionLoopDown (s : State) (tr : Transaction) : State :=
  ownerEnds tr.operation ((tr.frame.data.getD 0 0).setWidth 8) tr.withdrawn .loopDown s

/-- An operation without a tag ends LOOP_DOWN (R63, R64). -/
def operationLoopDown (s : State) (op : Operation) : State := ownerEnds op 0 false .loopDown s

/-- The claim queues and the backoff list empty. -/
def dropQueued (s : State) : State :=
  s.setWindow { s.window with claimsS := [], claimsI := [], claimsJ := [], backoff := [] }

/-- Every WAITING claim and every operation in BACKOFF ends LOOP_DOWN (R63). -/
def endQueued (s : State) : State := (queuedOps s.window).foldl operationLoopDown (dropQueued s)

/-- Every tag FREE, and every reservation back to FREE (R64). -/
def freeWindow (s : State) : State :=
  (heldTransactions s.window).foldl (fun s tr => dropReservation tr.reservation s)
    (s.setWindow { s.window with tags := Vector.replicate 8 none })

/-- The window empties at once (R64): every operation, HOLDING, WAITING or in BACKOFF, ends LOOP_DOWN. -/
def emptyWindow (s : State) : State :=
  let held := heldTransactions s.window
  let queued := queuedOps s.window
  queued.foldl operationLoopDown (held.foldl transactionLoopDown (dropQueued (freeWindow s)))

/-- The job engine is told that the loop is down (R92, R119). -/
def jobsLoopDown (s : State) : State := (List.finRange 16).foldl (fun s c => pauseLoopDown c s) s

/-- The window, the deferral table and the job engine take a break of the loop (R64, R80, R92). A census is abandoned (R32). The
attention unit and the cyclic scheduler change nothing at once (R177, R184). The census goes first, so that the LOOP_DOWN record
of a CENSUS command joins completion ring 0's queue before the records of the jobs that the break ends (DESIGN CHOICE,
assumption 14: R32 and R154 give no order). -/
def tellBroken (s : State) : State := jobsLoopDown (tableLoopDown (emptyWindow (abandonCensus s)))

/-! ### BROKEN -/

/-- The retrain timer as BROKEN is entered (R21): one retrain interval, or stopped when the interval is 0. -/
def retrainDue (s : State) : Option Instant :=
  if s.params.retrain = 0 then none else some (s.timebase + 1000 * s.params.retrain)

/-- The loop controller enters BROKEN with its notice (R19, R21). -/
def enterBroken (reason : LoopReason) (s : State) : State :=
  notifyLoop reason
    (s.setLoop
      { stopTransmitter s.loop with
        state := .broken, trainingTimer := none, agreed := none, retrainTimer := retrainDue s })

/-- A LOOP START that waits ends LOOP_NOT_RUNNING with the loop notice's reason (R152). -/
def failLoopStart (reason : LoopReason) (s : State) : State :=
  if adminWait s = some .loopStart then endAdmin .loopNotRunning (some reason.code) s else s

/-- A break from CENSUS or RUNNING (R21). A LOOP START that waits ends last, its record behind those of the jobs that the break
ends (DESIGN CHOICE, assumption 14: R152 gives no order). -/
def loopBreak (reason : LoopReason) (s : State) : State :=
  failLoopStart reason (tellBroken (enterBroken reason s))

/-- The training timer's expiry in TRAINING (R19). -/
def trainingFails (s : State) : State := failLoopStart .trainingTimeout (enterBroken .trainingTimeout s)

/-! ### STOPPING and OFF -/

/-- A stop request in TRAINING, CENSUS, RUNNING or BROKEN (R23, R63, R32): the transactions holding tags are kept. -/
def stopRequest (s : State) : State :=
  endQueued (abandonCensus
    (s.setLoop { s.loop with state := .stopping, trainingTimer := none, retrainTimer := none, agreed := none }))

/-- The loop enters OFF from STOPPING (R23, R79); a LOOP STOP that waits ends OK (R153), its record handed over behind those of
the jobs that OFF ends (DESIGN CHOICE, assumption 14: R153 gives no order). -/
def enterOff (s : State) : State :=
  let s := notifyLoop .stopped (s.setLoop { stopTransmitter s.loop with state := .off })
  let s := jobsLoopDown (tableLoopDown s)
  if adminWait s = some .loopStop then endAdmin .ok none s else s

/-! ### FATAL (R16, R138) -/

/-- Completion ring 0 becomes FAULTED and its posting queue is dropped, with its ring notice (R138). -/
def faultRing (k : RingId) (addr : Addr) (s : State) : State :=
  let r := s.compRing k
  let s := s.setCompRing k { r with state := .faulted, queue := [], writing := none, moderation := r.moderation.clear }
  notify (.compRing k) (.ring (some addr)) (r.queue.foldl (fun s p => releaseSource p s) s)

/-- A LOOP START or LOOP STOP that waits when the part enters FATAL ends (R152, R153). -/
def fatalEndsWait (s : State) : State :=
  if adminWait s = some .loopStop then endAdmin .ok none s else failLoopStart .fatal s

/-- The loop controller takes the loop to OFF at once (R16). -/
def fatalOff (s : State) : State :=
  notifyLoop .fatal
    (s.setLoop
      { stopTransmitter s.loop with state := .off, trainingTimer := none, retrainTimer := none, agreed := none })

/-- The part enters FATAL (R138): the ring notice stands ahead of the loop notice. -/
def enterFatal (addr : Addr) (s : State) : State :=
  fatalEndsWait (tellBroken (fatalOff (faultRing 0 addr (s.setRegs { s.regs with fatal := true }))))

end Sys2Proof.Machine
end

