-- ==== Sys2Proof/Machine/ReachOps.lean ====
section
/-! DEFINITION. A deadline, an abort or a ring deletion reaching a ring job (R110, R116, R117), and the admission of an entry
(R106 to R109). -/

namespace Sys2Proof.Machine

/-! ### Reaching a job -/

/-- The pending outcome of a job, set by the first event that reaches it (R117). -/
def setPending (c : CtxId) (p : Pending) (s : State) : State := s.modCtx c fun x => { x with pending := x.pending <|> some p }

/-- A deadline, an abort or a ring deletion reaches a ring job (R116, R117), by its job state. -/
def reachJob (c : CtxId) (p : Pending) (s : State) : State :=
  let x := s.ctx c
  let s' := setPending c p s
  match x.state with
  | .free | .completing => s
  | .admitting | .aborting => s'
  | .ready | .paused => endPending c (withdrawQueued (fun op => op.owner = .context c) s')
  | .issued =>
    let s' := s'.modCtx c fun x => { x with state := .aborting }
    if x.inWrite.isSome then s' else withdrawHeld (fun op => op.owner = .context c) s'
  | .deferred => endPending c (orphanOwned c s')

/-- The ring contexts (R103). -/
def ringContexts : List CtxId := (List.finRange 12).map fun c => ⟨c.val, by omega⟩

/-- The internal contexts (R103). -/
def internalContexts : List CtxId := [12, 13, 14, 15]

/-- A context can be reached: it holds a job that is not COMPLETING (R117). -/
def Context.reachable (x : Context) : Bool := !(x.state == .free) && !(x.state == .completing)

/-- The ring contexts whose job a test names and that can be reached (R117, R148, R164), from context 0 up: one ABORT JOB or
DELETE SQ reaches them in this order (DESIGN CHOICE, assumption 14: the rules give none). -/
def reachedBy (p : Context → Bool) (s : State) : List CtxId :=
  ringContexts.filter fun c => (s.ctx c).reachable && p (s.ctx c)

/-- The jobs of a list of contexts are reached, one after another. -/
def reachAll (cs : List CtxId) (p : Pending) (s : State) : State := cs.foldl (fun s c => reachJob c p s) s

/-! ### Admission -/

/-- A buffer's length and address pass (R107). -/
def bufferOk (addr : Addr) (length : Nat) : Bool :=
  length % 4 == 0 && length ≤ Config.maxBuffer && (length == 0 || addr.toNat % 4 == 0)

/-- The list source's own fields pass (R107): code 1 is INLINE, code 2 STORED (R197). -/
def sourceFieldsOk (e : JobEntry) : Bool :=
  if e.source = 1 then 1 ≤ e.inlineCount && e.inlineCount ≤ Config.maxSteps && e.inlineAddr.toNat % 4 == 0
  else e.source == 2 && (listAt? e.listId).isSome

/-- The entry's own fields (R107): permission code 1 is ALLOW, 2 FORBID (R197). -/
def JobEntry.wellFormed (e : JobEntry) : Bool :=
  sourceFieldsOk e && bufferOk e.inAddr e.inLen && bufferOk e.outAddr e.outLen
    && (e.permission == 1 || e.permission == 2)

/-- The lowest-numbered FREE context of a list (R106, R122). -/
def freeIn (cs : List CtxId) (s : State) : Option CtxId := cs.find? fun c => (s.ctx c).state == .free

/-- The context of an entry just handed over (R106). -/
def admitted (e : JobEntry) (r : RingId) (s : State) : Context :=
  { state := .admitting, sq := r, cq := (s.subRing r).cq, jobId := e.jobId,
    inAddr := e.inAddr, inLen := e.inLen, outAddr := e.outAddr, outLen := e.outLen, allowDefer := e.permission == 1,
    admitted := s.timebase, deadline := if e.deadline = 0 then none else some (s.timebase + 1000 * e.deadline) }

/-- The end of admission of a job whose list is acquired and valid: the loop check (R109). -/
def endAdmission (c : CtxId) (s : State) : State :=
  if s.loop.state = .running then runList c (s.modCtx c fun x => { x with state := .ready })
  else enterCompleting c .loopDown (s.modCtx c fun x => { x with stopStep := some 0, stopCause := some .loopDown })

/-- A STORED list is asked for (R108). -/
def acquireStored (c : CtxId) (id : ListId) (s : State) : State :=
  match s.stored id with
  | .loaded steps _ _ _ =>
    endAdmission c
      (takeReference id (s.modCtx c fun x => { x with list := .stored id, stepCount := steps.length }))
  | .empty | .loading _ => enterCompleting c .listMissing s

/-- An entry handed to a context (R106 to R108). -/
def admitEntry (c : CtxId) (e : JobEntry) (r : RingId) (s : State) : State :=
  let s := s.setCtx c (admitted e r s)
  if !e.wellFormed then enterCompleting c .malformed s
  else
    match e.source, listAt? e.listId with
    | 2, some id => acquireStored c id s
    | _, _ =>
      s.modCtx c fun x =>
        { x with stepCount := e.inlineCount, reading := some (.inlineList e.inlineAddr (16 * e.inlineCount)) }

/-- An inline list has been read without error (R109). -/
def inlineRead (c : CtxId) (bytes : List Byte) (s : State) : State :=
  match parseSteps (s.ctx c).stepCount 0 bytes with
  | .error i => enterCompleting c .malformed (s.modCtx c fun x => { x with stopStep := some i })
  | .ok steps => endAdmission c (s.modCtx c fun x => { x with list := .inline steps })

end Sys2Proof.Machine
end

