-- ==== Sys2Proof/Machine/Settle.lean ====
section
/-! DEFINITION. What the part does by itself once an event has been taken: each rule that acts 'on each event that can bring
these together' is one step here, taken while it can be, in a fixed order (assumption 8). -/

namespace Sys2Proof.Machine

/-! ### Loop and rings -/

/-- The window holds no transaction in STOPPING: OFF (R23). -/
def settleOff (s : State) : Option State :=
  if s.loop.state = .stopping ∧ heldTransactions s.window = [] then some (enterOff s) else none

/-- The rings that commands create (R126, R131). -/
def jobRings : List RingId := [1, 2, 3, 4, 5, 6, 7]

/-- The contexts a waiting DELETE SQ of a ring reached (R148). -/
def deleteReached (s : State) (r : RingId) : Option Nat :=
  match adminWait s with
  | some (.deleteSq q reached) => if q = r then some reached else none
  | _ => none

/-- A submission ring whose deletion has nothing left to wait for (R130): also one whose last fetch read ended with an error
after the deletion was accepted (assumption 10). -/
def drained (s : State) (r : RingId) : Bool :=
  let x := s.subRing r
  (x.state == .draining || (x.state == .faulted && (deleteReached s r).isSome))
    && x.jobsHeld == 0 && !(s.rings.fetch.any fun f => f.ring == r)

/-- The ring becomes ABSENT with every field 0 and its credit 0, and the DELETE SQ that waits ends (R130, R148). -/
def removeSubRing (r : RingId) (s : State) : State :=
  let reached := deleteReached s r
  let s := s.setRings { s.rings with sub := vset s.rings.sub r {}, credits := vset s.rings.credits r 0 }
  match reached with
  | some n => endAdmin .ok (some n) s
  | none => s

def settleDrained (s : State) : Option State :=
  match jobRings.find? (drained s) with
  | some r => some (removeSubRing r s)
  | none => none

/-! ### Internal contexts and the loop service -/

/-- The pending attention queue's head takes the lowest-numbered FREE internal context (R122, R173). -/
def settleAttention (s : State) : Option State :=
  match s.attention.queue, freeIn internalContexts s with
  | key :: rest, some c =>
    if s.loop.state = .running then
      let s := s.setAttention { s.attention with queue := rest }
      match s.attentionEntry key with
      | some { list := some id, .. } =>
        some (startRun c (.attention key) id (s.modAttention key fun e => { e with state := .running }))
      | _ => some s
    else none
  | _, _ => none

/-- A MASK is wanted for a node (R37, R176). -/
def wantsMask (s : State) (n : NodeId) : Bool :=
  (s.node n).state == .present && (s.node n).dirty && !operationExists s fun o => o.owner = .mask n

/-- The loop service claims a MASK (R37). -/
def settleMask (s : State) : Option State :=
  if s.loop.state = .running then
    match (List.finRange 30).find? (wantsMask s) with
    | some n => some (pushClaim { owner := .mask n, node := n } s)
    | none => none
  else none

/-! ### Record writes (R125, R131, R136, R194) -/

/-- The rings 0-7 (R131). -/
def allRings : List RingId := List.finRange 8

/-- The record at the head of a ring's posting queue can be written (R131). -/
def canPost (s : State) (k : RingId) : Bool :=
  let r := s.compRing k
  r.state == .active && !ringFull r.producer r.consumer r.size && r.writing.isNone && !r.queue.isEmpty

/-- The write of the head record begins, its last word last (R125, R198). -/
def beginPost (k : RingId) (s : State) : State :=
  let r := s.compRing k
  match r.queue with
  | p :: _ =>
    s.setCompRing k
      { r with writing := some { addr := recordAddr r.base r.producer 32, bytes := completionBytes p r.phase,
                                 lastWord := 28 } }
  | [] => s

def settlePost (s : State) : Option State :=
  match allRings.find? (canPost s) with
  | some k => some (beginPost k s)
  | none => none

/-- The write of the notice at the head begins, word 0 last (R194, R199). -/
def settleEvent (s : State) : Option State :=
  let r := s.rings.event
  match s.notices with
  | n :: _ =>
    if r.state = .active ∧ ringFull r.producer r.consumer r.size = false ∧ r.writing = none then
      some (s.setEventRing
        { r with writing := some { addr := recordAddr r.base r.producer 32, bytes := eventBytes n r.phase,
                                   lastWord := 0 } })
    else none
  | [] => none

/-! ### Fetches (R127, R129) -/

/-- A submission ring the fetch arbiter may choose (R127). -/
def eligible (s : State) (r : RingId) : Bool :=
  let x := s.subRing r
  x.state == .active && !(x.producer == x.consumer) && !((s.compRing x.cq).state == .faulted)

/-- The credits at the start of a round (R127). -/
def newRound (s : State) : Vector Nat 8 :=
  jobRings.foldl
    (fun v r => vset v r (if (s.subRing r).state = .active then (s.subRing r).weight else 0)) s.rings.credits

/-- The ring after a ring in the arbiter's order: 7 is followed by 1 (R127). -/
def ringAfter (r : RingId) : RingId := if r.val = 7 then 1 else r + 1

/-- The rings 1-7 in order from the pointer (R127). -/
def ringsFrom : Nat → RingId → List RingId
  | 0, _ => []
  | n + 1, r => r :: ringsFrom n (ringAfter r)

/-- The credits a decision works with (R127): a new round begins when no eligible ring has a credit. -/
def decisionCredits (s : State) : Vector Nat 8 :=
  if jobRings.any fun r => eligible s r && 0 < vget s.rings.credits r then s.rings.credits else newRound s

/-- The ring a decision chooses (R127). -/
def chooseRing (s : State) : Option RingId :=
  (ringsFrom 7 s.rings.pointer).find? fun r => eligible s r && 0 < vget (decisionCredits s) r

/-- A fetch decision may be made (R127); the eligible ring is the chosen one. -/
def mayFetch (s : State) : Bool :=
  (freeIn ringContexts s).isSome && s.rings.fetch.isNone && s.regs.enable && !s.regs.fatal

/-- The address of the entry at a submission ring's consumer index (R124, R128, R129). -/
def entryAddr (x : SubRing) : Addr := recordAddr x.base x.consumer 64

/-- The fetch decision (R127): the chosen ring's credit falls and its fetch read begins. -/
def settleFetch (s : State) : Option State :=
  if mayFetch s then
    match chooseRing s with
    | some r =>
      let credits := decisionCredits s
      let left := vget credits r - 1
      some (s.setRings
        { s.rings with
          credits := vset credits r left, pointer := if 0 < left then r else ringAfter r
          fetch := some { ring := r, addr := entryAddr (s.subRing r) } })
    | none => none
  else none

/-- The admin unit's fetch (R129). -/
def settleAdminFetch (s : State) : Option State :=
  let x := s.subRing 0
  if x.state = .active ∧ x.producer ≠ x.consumer ∧ s.regs.enable = true ∧ s.regs.fatal = false
      ∧ s.admin.fetching = none ∧ s.admin.job = none then
    some (s.setAdmin { s.admin with fetching := some (entryAddr x) })
  else none

/-! ### All together -/

/-- The first of the actions that can be taken. -/
def settleStep (s : State) : Option State :=
  settleOff s <|> settleDrained s <|> settleAttention s <|> settleMask s <|> orderClaims s <|> grantOne s
    <|> settlePost s <|> settleEvent s <|> settleFetch s <|> settleAdminFetch s

/-- The actions taken one after another until none can be. -/
def settle : Nat → State → State
  | 0, s => s
  | fuel + 1, s =>
    match settleStep s with
    | some s' => settle fuel s'
    | none => s

/-- What follows an event (assumption 8). One event brings far fewer actions than the fuel allows. -/
def react (s : State) : State := settle 4096 s

/-- The state after an event and what follows it. -/
abbrev Result := Host.Outcome State Fault Refusal

/-- An event taken: the state it leaves, and what the part does then. -/
def taken (s : State) : Result := .next (react s)

end Sys2Proof.Machine
end

