-- ==== Sys2Proof/Machine/Registers.lean ====
section
/-! DEFINITION. Resets and the host's writes: power-on, PCIe reset, function reset and the end of initialisation (R142), the
register window (R126, R132, R136, R137, R139, R140, R202) and the MSI-X masks (R135). -/

namespace Sys2Proof.Machine

/-! ### Resets -/

/-- Every block at its reset values; the commands waiting are outside the part and stay. -/
def resetAll (s : State) : State := { State.reset with pending := s.pending }

/-- POWER_ON: every block at its reset values, READY clear. -/
def execPowerOn (s : State) : Result := .next (resetAll s)

/-- PCIE_RESET: as power-on; every masked flag is set (R135, R142). -/
def execPcieReset (s : State) : Result := .next (resetAll s)

/-- A function reset: as power-on, but the masked flags stay (R135, R142). -/
def functionReset (s : State) : State :=
  (resetAll s).setHost { State.reset.host with maskedFlags := s.host.maskedFlags }

/-- FUNCTION_RESET: CONTROL written with FUNCTION RESET set, taken also during initialisation (R142). -/
def execFunctionReset (s : State) : Result := .next (functionReset s)

/-- INITIALISATION_END: READY is set (R142). -/
def execInitialisationEnd (s : State) : Result := .next (s.setRegs { s.regs with ready := true })

/-! ### CONTROL and the admin registers (R140) -/

/-- The admin registers are valid (R140). -/
def adminRegistersValid (r : Regs) : Bool :=
  isRingSize r.adminSqSize.toNat && isRingSize r.adminCqSize.toNat && r.adminSqBase.toNat % 64 == 0
    && r.adminCqBase.toNat % 32 == 0

/-- Submission ring 0 and completion ring 0 as they are first created (R126, R131). -/
def createAdminRings (s : State) : State :=
  (s.setSubRing 0 { state := .active, base := s.regs.adminSqBase, size := s.regs.adminSqSize.toNat }).setCompRing 0
    { state := .active, base := s.regs.adminCqBase, size := s.regs.adminCqSize.toNat, phase := true,
      moderation := { count := 1 } }

/-- ENABLE written 1 while clear (R140). -/
def enable (s : State) : State :=
  if (s.subRing 0).state = .absent then
    if adminRegistersValid s.regs then
      createAdminRings (s.setRegs { s.regs with enable := true, configError := false })
    else s.setRegs { s.regs with configError := true }
  else s.setRegs { s.regs with enable := true }

/-- ENABLE written 1 (R140, R142): ignored until READY is set; a set ENABLE does not change. -/
def writeEnable (s : State) : State := if s.regs.ready && !s.regs.enable then react (enable s) else s

/-- ENABLE written 0 (R140, R142). -/
def writeDisable (s : State) : State := if s.regs.ready then s.setRegs { s.regs with enable := false } else s

/-- ENABLE_SET (R140). -/
def execEnableSet (s : State) : Result := .next (writeEnable s)

/-- ENABLE_CLEARED (R140): no further fetch begins; everything else goes on. -/
def execEnableCleared (s : State) : Result := .next (writeDisable s)

/-- The low half of a base register replaced (R202). -/
def withLow (base : Addr) (value : Word) : Addr := base.extractLsb' 32 32 ++ value

/-- The high half of a base register replaced (R202). -/
def withHigh (base : Addr) (value : Word) : Addr := value ++ base.extractLsb' 0 32

/-- One word of the admin registers replaced (R202). -/
def Regs.withAdmin (r : Regs) (reg : AdminRegister) (value : Word) : Regs :=
  match reg with
  | .sqBaseLow => { r with adminSqBase := withLow r.adminSqBase value }
  | .sqBaseHigh => { r with adminSqBase := withHigh r.adminSqBase value }
  | .sqSize => { r with adminSqSize := value }
  | .cqBaseLow => { r with adminCqBase := withLow r.adminCqBase value }
  | .cqBaseHigh => { r with adminCqBase := withHigh r.adminCqBase value }
  | .cqSize => { r with adminCqSize := value }

/-- Whether the admin registers take a write (R140, R142). -/
def adminWritable (s : State) : Bool := s.regs.ready && !s.regs.enable && (s.subRing 0).state == .absent

/-- A write to an admin register (R140). -/
def writeAdmin (reg : AdminRegister) (value : Word) (s : State) : State :=
  if adminWritable s then s.setRegs (s.regs.withAdmin reg value) else s

/-- ADMIN_REGISTER_WRITE (R140). -/
def execAdminRegisterWrite (reg : AdminRegister) (value : Word) (s : State) : Result := .next (writeAdmin reg value s)

/-! ### Index slots (R139) -/

/-- A producer index write to a submission ring (R126). -/
def takeProducer (ring : RingId) (value : Nat) (s : State) : State :=
  let r := s.subRing ring
  if r.state = .active then
    if value < r.size then s.setSubRing ring { r with producer := value }
    else notify (.subRing ring) (.ring none) (s.setSubRing ring { r with state := .faulted })
  else s

/-- A write of index slots 0-7; ignored until READY is set (R142). -/
def writeProducer (ring : RingId) (value : Word) (s : State) : State :=
  if s.regs.ready then react (takeProducer ring value.toNat s) else s

/-- PRODUCER_INDEX_WRITE (R126). -/
def execProducerIndexWrite (ring : RingId) (value : Word) (s : State) : Result := .next (writeProducer ring value s)

/-- The moderation state after an accepted consumer index write: cleared when the ring is now empty (R132, R134). -/
def moderationAfter (m : Moderation) (producer consumer : Nat) : Moderation :=
  if producer = consumer then m.clear else m

/-- A consumer index write to a completion ring (R132). -/
def takeConsumer (ring : RingId) (value : Nat) (s : State) : State :=
  let r := s.compRing ring
  if r.state = .active ∧ consumerAccepted r.producer r.consumer r.size value = true then
    s.setCompRing ring { r with consumer := value, moderation := moderationAfter r.moderation r.producer value }
  else s

/-- A write of index slots 8-15. -/
def writeConsumer (ring : RingId) (value : Word) (s : State) : State :=
  if s.regs.ready then react (takeConsumer ring value.toNat s) else s

/-- COMPLETION_CONSUMER_INDEX_WRITE (R132). -/
def execCompletionConsumerIndexWrite (ring : RingId) (value : Word) (s : State) : Result :=
  .next (writeConsumer ring value s)

/-- A consumer index write to the event ring (R136). -/
def takeEventConsumer (value : Nat) (s : State) : State :=
  let r := s.rings.event
  if r.state = .active ∧ consumerAccepted r.producer r.consumer r.size value = true then
    s.setEventRing { r with consumer := value, moderation := moderationAfter r.moderation r.producer value }
  else s

/-- A write of index slot 16. -/
def writeEventConsumer (value : Word) (s : State) : State :=
  if s.regs.ready then react (takeEventConsumer value.toNat s) else s

/-- EVENT_CONSUMER_INDEX_WRITE (R136). -/
def execEventConsumerIndexWrite (value : Word) (s : State) : Result := .next (writeEventConsumer value s)

/-- A consumer index write to a slot's capture ring (R137): ignored while the slot is IDLE. -/
def takeCaptureConsumer (k : SlotId) (value : Nat) (s : State) : State :=
  let r := s.captureRing k
  if (s.slot k).state ≠ .idle ∧ consumerAccepted r.producer r.consumer r.size value = true then
    s.setCaptureRing k { r with consumer := value }
  else s

/-- A write of index slots 17-24. -/
def writeCaptureConsumer (k : SlotId) (value : Word) (s : State) : State :=
  if s.regs.ready then takeCaptureConsumer k value.toNat s else s

/-- CAPTURE_CONSUMER_INDEX_WRITE (R137). -/
def execCaptureConsumerIndexWrite (k : SlotId) (value : Word) (s : State) : Result :=
  .next (writeCaptureConsumer k value s)

/-! ### Any register by its offset (R139, R202) -/

/-- A write to CONTROL (R140, R142): FUNCTION RESET in the word discards its ENABLE value. -/
def writeControl (value : Word) (s : State) : State :=
  if value.getLsbD 1 then functionReset s else if value.getLsbD 0 then writeEnable s else writeDisable s

/-- A write to index slot k (R139): slots 25-31 belong to no ring. -/
def writeIndex (k : Nat) (value : Word) (s : State) : State :=
  if h : k < 8 then writeProducer ⟨k, h⟩ value s
  else if h : k < 16 then writeConsumer ⟨k - 8, by omega⟩ value s
  else if k = 16 then writeEventConsumer value s
  else if h : k < 25 then writeCaptureConsumer ⟨k - 17, by omega⟩ value s
  else s

/-- REGISTER_WRITE: a write of a word at an offset of the window. IDENT, STATUS, index slots 25-31 and the offsets R202 does
not list ignore it (R139, R202); a write to another register is that register's own. -/
def execRegisterWrite (offset : BitVec 8) (value : Word) (s : State) : Result :=
  match offset.toNat with
  | 0x04 => .next (writeControl value s)
  | 0x10 => .next (writeAdmin .sqBaseLow value s)
  | 0x14 => .next (writeAdmin .sqBaseHigh value s)
  | 0x18 => .next (writeAdmin .sqSize value s)
  | 0x20 => .next (writeAdmin .cqBaseLow value s)
  | 0x24 => .next (writeAdmin .cqBaseHigh value s)
  | 0x28 => .next (writeAdmin .cqSize value s)
  | o => if 0x40 ≤ o ∧ o % 4 = 0 then .next (writeIndex ((o - 0x40) / 4) value s) else .next s

/-! ### MSI-X masks (R135) -/

/-- A vector unmasked: one message goes out if its pending flag is set, and the flag clears (R135). -/
def unmask (v : Vec) (s : State) : State :=
  let flag := s.host.pendingFlags.getLsbD v.val
  s.setHost
    { maskedFlags := setBit s.host.maskedFlags v.val false
      pendingFlags := setBit s.host.pendingFlags v.val false
      messages := if flag then s.host.messages ++ [v] else s.host.messages }

/-- MSIX_VECTOR_MASK_WRITE (R135): one event at the host port, whatever READY is. -/
def execMsixVectorMaskWrite (v : Vec) (masked : Bool) (s : State) : Result :=
  if masked then .next (s.setHost { s.host with maskedFlags := setBit s.host.maskedFlags v.val true })
  else .next (unmask v s)

end Sys2Proof.Machine
end

