-- ==== Sys2Proof/Machine/Fetch.lean ====
section
/-! DEFINITION. The ends of the fetch reads: the arbiter's (R128) and the admin unit's (R129). -/

namespace Sys2Proof.Machine

/-- A fetched entry taken (R128): the consumer index advances; on a DRAINING ring the entry is dropped, otherwise it goes to
the lowest-numbered FREE ring context. -/
def takeEntry (r : RingId) (bytes : List Byte) (s : State) : State :=
  let x := s.subRing r
  let x := { x with consumer := nextIndex x.consumer x.size }
  if x.state = .draining then s.setSubRing r x
  else
    match freeIn ringContexts s with
    | some c => admitEntry c (parseJobEntry bytes) r (s.setSubRing r { x with jobsHeld := x.jobsHeld + 1 })
    | none => s

/-- A fetch read ended with an error: the ring is FAULTED, with its notice (R128, R129). -/
def fetchFails (r : RingId) (addr : Addr) (s : State) : State :=
  notify (.subRing r) (.ring (some addr)) (s.setSubRing r { s.subRing r with state := .faulted })

/-- FETCH_READ_END (R128): the read in progress ends; none in progress, no effect. -/
def execFetchReadEnd (result : ReadEnd) (s : State) : Result :=
  match s.rings.fetch with
  | none => .next s
  | some read =>
    let s' := s.setRings { s.rings with fetch := none }
    match result with
    | .data bytes => if bytes.length = 64 then taken (takeEntry read.ring bytes s') else .fault .hostDataLength
    | .error addr => taken (fetchFails read.ring addr s')

/-- A fetched command goes to the admin unit (R129, R143): a code that names no command ends it MALFORMED at once. -/
def takeCommand (bytes : List Byte) (s : State) : State :=
  let x := s.subRing 0
  let s := s.setSubRing 0 { x with consumer := nextIndex x.consumer x.size }
  let s := s.setAdmin { s.admin with job := some (parseAdminJob bytes) }
  if parseAdminCommand bytes = .unknown then endAdmin .malformed none s else s

/-- ADMIN_FETCH_READ_END (R129). -/
def execAdminFetchReadEnd (result : ReadEnd) (s : State) : Result :=
  if s.admin.fetching.isSome then
    let s' := s.setAdmin { s.admin with fetching := none }
    match result with
    | .data bytes => if bytes.length = 64 then taken (takeCommand bytes s') else .fault .hostDataLength
    | .error addr => taken (fetchFails 0 addr s')
  else .next s

end Sys2Proof.Machine
end

