-- ==== Sys2Proof/Machine/AdminRings.lean ====
section
/-! DEFINITION. The administrative commands that concern identity, parameters and rings (R145 to R151). Each carries out the
command the admin unit holds, when that is the one dispatched (assumption 4). -/

namespace Sys2Proof.Machine

/-! ### Identity and parameters -/

/-- IDENTIFY (R145): the block is written as it stands now; the command ends with the write. -/
def identify (buffer : Addr) (s : State) : State :=
  if buffer.toNat % 4 = 0 then waitAdmin (.bufferWrite { addr := buffer, bytes := identityBytes s } none) s
  else endAdmin .malformed none s

/-- IDENTIFY. -/
def execIdentify (s : State) : Result :=
  match dispatched s with
  | some (.identify buffer) => taken (identify buffer s)
  | _ => .next s

/-- The value of a parameter by its number (R146). -/
def Params.value (p : Params) : Nat → Nat
  | 1 => p.returnTimeout
  | 2 => p.crcLimit
  | 3 => p.busyLimit
  | 4 => p.busyBackoff
  | 5 => p.silence
  | 6 => p.deferDeadline
  | _ => p.retrain

/-- Whether a value lies in the range of a parameter (R146). -/
def paramInRange (number value : Nat) : Bool :=
  match number with
  | 1 => 50 ≤ value && value ≤ 10000
  | 2 => value ≤ 7
  | 3 => 1 ≤ value && value ≤ 64
  | 4 => 20 ≤ value && value ≤ 5000
  | 5 => 1 ≤ value && value ≤ 15
  | 6 => 1 ≤ value && value ≤ 60000
  | _ => value ≤ 60000

/-- The parameter numbers (R146). -/
def paramNumbers : List Nat := [1, 2, 3, 4, 5, 6, 7]

/-- The selected parameters' values in place of the current ones (R146). -/
def Params.choose (old new : Params) (selected : Nat → Bool) : Params where
  returnTimeout := if selected 1 then new.returnTimeout else old.returnTimeout
  crcLimit := if selected 2 then new.crcLimit else old.crcLimit
  busyLimit := if selected 3 then new.busyLimit else old.busyLimit
  busyBackoff := if selected 4 then new.busyBackoff else old.busyBackoff
  silence := if selected 5 then new.silence else old.silence
  deferDeadline := if selected 6 then new.deferDeadline else old.deferDeadline
  retrain := if selected 7 then new.retrain else old.retrain

/-- The first selected parameter whose value is out of range (R146). -/
def badParam (selection : Byte) (values : Params) : Option Nat :=
  paramNumbers.find? fun p => selection.getLsbD p && !paramInRange p (values.value p)

/-- The lowest selected parameter that changes only while the loop is OFF (R146). -/
def lockedParam (selection : Byte) : Option Nat := [1, 2, 3, 4, 5].find? fun p => selection.getLsbD p

/-- SET PARAMETERS (R146): the checks in order, then every selected value together. A silence threshold set to or below the
untouched count of a PRESENT record leaves that count and state as they are, until the next return counts (DESIGN CHOICE,
assumption 32: R33 names no such event). -/
def setParameters (selection : Byte) (values : Params) (s : State) : State :=
  match badParam selection values with
  | some p => endAdmin .malformed (some p) s
  | none =>
    let change := endAdmin .ok none (s.setParams (s.params.choose values fun p => selection.getLsbD p))
    if s.loop.state = .off then change
    else match lockedParam selection with
      | some p => endAdmin .badState (some p) s
      | none => change

/-- SET PARAMETERS. -/
def execSetParameters (s : State) : Result :=
  match dispatched s with
  | some (.setParameters selection values) => taken (setParameters selection values s)
  | _ => .next s

/-! ### Submission rings -/

/-- The fields of a CREATE SQ (R147). -/
def createSqFields (cq weight size : Nat) (base : Addr) : Bool :=
  isRingSize size && base.toNat % 64 == 0 && cq < 8 && 1 ≤ weight && weight ≤ 15

/-- CREATE SQ of a ring 1-7 whose fields pass (R147). -/
def createSqRing (r cq : RingId) (weight size : Nat) (base : Addr) (s : State) : State :=
  if (s.subRing r).state ≠ .absent then endAdmin .inUse none s
  else match (s.compRing cq).state with
    | .absent => endAdmin .notFound none s
    | .faulted => endAdmin .badState none s
    | .active => endAdmin .ok none (s.setSubRing r { state := .active, base, size, cq, weight })

/-- CREATE SQ (R147). -/
def createSq (ring cq weight size : Nat) (base : Addr) (s : State) : State :=
  match jobRingAt? ring, ringAt? cq with
  | some r, some q =>
    if createSqFields cq weight size base then createSqRing r q weight size base s else endAdmin .malformed none s
  | _, _ => endAdmin .malformed none s

/-- CREATE SQ. -/
def execCreateSq (s : State) : Result :=
  match dispatched s with
  | some (.createSq ring cq weight size base) => taken (createSq ring cq weight size base s)
  | _ => .next s

/-- DELETE SQ (R148): DRAINING, every job of the ring reached, and the wait for the ring to become ABSENT. -/
def deleteSq (ring : Nat) (s : State) : State :=
  match jobRingAt? ring with
  | none => endAdmin .malformed none s
  | some r =>
    if (s.subRing r).state = .absent then endAdmin .notFound none s
    else
      let reached := reachedBy (fun x => x.sq == r) s
      reachAll reached .ringDeleted
        (waitAdmin (.deleteSq r reached.length) (s.setSubRing r { s.subRing r with state := .draining }))

/-- DELETE SQ. -/
def execDeleteSq (s : State) : Result :=
  match dispatched s with
  | some (.deleteSq ring) => taken (deleteSq ring s)
  | _ => .next s

/-! ### Completion rings and the event ring -/

/-- The fields CREATE CQ and SET EVENT RING share (R149, R151); the moderation time fills its 16-bit field. -/
def recordRingFields (vector count size time : Nat) (base : Addr) : Bool :=
  isRingSize size && base.toNat % 32 == 0 && vector < 16 && 1 ≤ count && count ≤ 255 && time ≤ 65535

/-- CREATE CQ (R149). -/
def createCq (ring vector count size time : Nat) (base : Addr) (s : State) : State :=
  match jobRingAt? ring, vectorAt? vector with
  | some k, some v =>
    if recordRingFields vector count size time base then
      if (s.compRing k).state ≠ .absent then endAdmin .inUse none s
      else
        endAdmin .ok none
          (s.setCompRing k { state := .active, base, size, phase := true, vector := v, moderation := { count, time } })
    else endAdmin .malformed none s
  | _, _ => endAdmin .malformed none s

/-- CREATE CQ. -/
def execCreateCq (s : State) : Result :=
  match dispatched s with
  | some (.createCq ring vector count size time base) => taken (createCq ring vector count size time base s)
  | _ => .next s

/-- The submission rings 1-7 that name a completion ring (R150). -/
def namingRings (s : State) (k : RingId) : List RingId :=
  jobRings.filter fun r => !((s.subRing r).state == .absent) && (s.subRing r).cq == k

/-- DELETE CQ (R150). -/
def deleteCq (ring : Nat) (s : State) : State :=
  match jobRingAt? ring with
  | none => endAdmin .malformed none s
  | some k =>
    if (s.compRing k).state = .absent then endAdmin .notFound none s
    else if (namingRings s k) ≠ [] then endAdmin .inUse (some (namingRings s k).length) s
    else endAdmin .ok none (s.setCompRing k {})

/-- DELETE CQ. -/
def execDeleteCq (s : State) : Result :=
  match dispatched s with
  | some (.deleteCq ring) => taken (deleteCq ring s)
  | _ => .next s

/-- The event ring is set (R136, R151) and the command ends. -/
def applyEventRing (v : Vec) (count size time : Nat) (base : Addr) (s : State) : State :=
  endAdmin .ok none
    ((s.setEventRing { state := .active, base, size, phase := true, vector := v, moderation := { count, time } }).setRegs
      { s.regs with eventFault := false })

/-- A SET EVENT RING that waits for an event record write goes on when that write has ended (R151). -/
def resumeEventRing (s : State) : State :=
  match adminWait s with
  | some (.eventWrite v count size time base) => applyEventRing v count size time base s
  | _ => s

/-- SET EVENT RING (R151). -/
def setEventRingCommand (vector count size time : Nat) (base : Addr) (s : State) : State :=
  match vectorAt? vector with
  | none => endAdmin .malformed none s
  | some v =>
    if recordRingFields vector count size time base then
      if s.rings.event.writing.isSome then waitAdmin (.eventWrite v count size time base) s
      else applyEventRing v count size time base s
    else endAdmin .malformed none s

/-- SET EVENT RING. -/
def execSetEventRing (s : State) : Result :=
  match dispatched s with
  | some (.setEventRing vector count size time base) => taken (setEventRingCommand vector count size time base s)
  | _ => .next s

end Sys2Proof.Machine
end

