-- ==== Sys2Proof/Machine/AdminLoop.lean ====
section
/-! DEFINITION. The administrative commands that concern the loop and its nodes (R152 to R156). -/

namespace Sys2Proof.Machine

/-- LOOP START (R152). In FATAL no start request reaches the loop (R16, R144): a command read before FATAL and carried out
after it ends as one that was waiting does (assumption 11). -/
def loopStart (s : State) : State :=
  if s.regs.fatal then endAdmin .loopNotRunning (some LoopReason.fatal.code) s
  else match s.loop.state with
    | .off | .broken => startRequest (waitAdmin .loopStart s)
    | .training | .census => waitAdmin .loopStart s
    | .running | .stopping => endAdmin .badState (some s.loop.state.code) s

/-- LOOP START. -/
def execLoopStart (s : State) : Result :=
  match dispatched s with
  | some .loopStart => taken (loopStart s)
  | _ => .next s

/-- LOOP STOP (R153): in OFF it ends at once; otherwise it makes a stop request and waits for OFF. In STOPPING, which R153 says
it cannot find, it waits for the OFF that is coming (DESIGN CHOICE, assumption 33). -/
def loopStop (s : State) : State :=
  match s.loop.state with
  | .off => endAdmin .ok none s
  | .stopping => waitAdmin .loopStop s
  | .training | .census | .running | .broken => stopRequest (waitAdmin .loopStop s)

/-- LOOP STOP. -/
def execLoopStop (s : State) : Result :=
  match dispatched s with
  | some .loopStop => taken (loopStop s)
  | _ => .next s

/-- CENSUS (R154). -/
def censusCommand (s : State) : State :=
  if s.loop.state = .running then beginCensus true (waitAdmin .census s)
  else endAdmin .loopNotRunning (some s.loop.state.code) s

/-- CENSUS. -/
def execCensus (s : State) : Result :=
  match dispatched s with
  | some .census => taken (censusCommand s)
  | _ => .next s

/-- NODE RESET (R155). -/
def nodeReset (node : Nat) (s : State) : State :=
  match nodeAt? node with
  | none => endAdmin .malformed none s
  | some n =>
    if s.loop.state ≠ .running then endAdmin .loopNotRunning (some s.loop.state.code) s
    else match (s.node n).state with
      | .present | .silent => pushClaim { owner := .nodeReset n, node := n } (waitAdmin .nodeReset s)
      | .absent | .incompatible => endAdmin .badState (some (s.node n).state.code) s

/-- NODE RESET. -/
def execNodeReset (s : State) : Result :=
  match dispatched s with
  | some (.nodeReset node) => taken (nodeReset node s)
  | _ => .next s

/-- NODE TABLE READ (R156): the 30 records are copied as they stand now (assumption 12). -/
def nodeTableRead (buffer : Addr) (s : State) : State :=
  if buffer.toNat % 4 = 0 then
    waitAdmin (.bufferWrite { addr := buffer, bytes := nodeTableBytes s.nodes.records } (some (presentCount s))) s
  else endAdmin .malformed none s

/-- NODE TABLE READ. -/
def execNodeTableRead (s : State) : Result :=
  match dispatched s with
  | some (.nodeTableRead buffer) => taken (nodeTableRead buffer s)
  | _ => .next s

/-- The last write of an IDENTIFY or NODE TABLE READ buffer has ended (R145, R156). -/
def bufferWritten (result : WriteEnd) (detail : Option Nat) (s : State) : State :=
  match result with
  | .ok => endAdmin .ok detail s
  | .error _ => endAdmin .bufferFault none s

/-- ADMIN_BUFFER_WRITE_END (R145, R156). -/
def execAdminBufferWriteEnd (result : WriteEnd) (s : State) : Result :=
  match adminWait s with
  | some (.bufferWrite _ detail) => taken (bufferWritten result detail s)
  | _ => .next s

end Sys2Proof.Machine
end

