-- ==== Sys2Proof/Machine/AdminTables.lean ====
section
/-! DEFINITION. The administrative commands that concern lists (R100, R101, R157), attention entries (R158 to R160), cyclic
slots (R161 to R163) and jobs (R164). -/

namespace Sys2Proof.Machine

/-! ### Lists -/

/-- LOAD LIST (R100): the checks, then LOADING; the steps are read at the address the command holds. -/
def loadList (id count : Nat) (s : State) : State :=
  match listAt? id with
  | none => endAdmin .malformed none s
  | some l =>
    if count < 1 ∨ Config.maxSteps < count then endAdmin .malformed none s
    else if s.stored l ≠ .empty then endAdmin .inUse none s
    else if freeSlots s.lists < count then endAdmin .noSpace (some (freeSlots s.lists)) s
    else waitAdmin (.loadList l) (s.setStored l (.loading count))

/-- LOAD LIST. -/
def execLoadList (s : State) : Result :=
  match dispatched s with
  | some (.loadList id count _) => taken (loadList id count s)
  | _ => .next s

/-- A load ended without its list: the id is EMPTY again (R100). -/
def loadFails (id : ListId) (outcome : AdminOutcome) (detail : Option Nat) (s : State) : State :=
  endAdmin outcome detail (s.setStored id .empty)

/-- A list is held under its id (R98, R100). -/
def holdList (id : ListId) (steps : List Step) (s : State) : State :=
  let s := s.setStored id (.loaded steps (readWordTotal steps) (listUsesOut steps) 0)
  endAdmin .ok (some (freeSlots s.lists)) s

/-- The steps of a load have been read (R97, R100). -/
def listRead (id : ListId) (count : Nat) (bytes : List Byte) (s : State) : State :=
  match parseSteps count 0 bytes with
  | .error i => loadFails id .malformed (some i) s
  | .ok steps => holdList id steps s

/-- LIST_LOAD_READ_END (R100). -/
def execListLoadReadEnd (result : ReadEnd) (s : State) : Result :=
  match adminWait s with
  | some (.loadList id) =>
    match s.stored id, result with
    | .loading count, .data bytes =>
      if bytes.length = 16 * count then taken (listRead id count bytes s) else .fault .hostDataLength
    | .loading _, .error _ => taken (loadFails id .bufferFault none s)
    | .empty, _ | .loaded .., _ => .next s
  | _ => .next s

/-- UNLOAD LIST (R101). DESIGN CHOICE (assumption 40): an id in LOADING, which R101 says the command cannot meet, is answered
NOT_FOUND. -/
def unloadList (id : Nat) (s : State) : State :=
  match listAt? id with
  | none => endAdmin .malformed none s
  | some l =>
    match s.stored l with
    | .loaded _ _ _ 0 =>
      let s := s.setStored l .empty
      endAdmin .ok (some (freeSlots s.lists)) s
    | .loaded _ _ _ refs => endAdmin .inUse (some refs) s
    | .empty | .loading _ => endAdmin .notFound none s

/-- UNLOAD LIST. -/
def execUnloadList (s : State) : Result :=
  match dispatched s with
  | some (.unloadList id) => taken (unloadList id s)
  | _ => .next s

/-! ### Attention entries -/

/-- Attention kinds by code (R197). -/
def entryKindOf : Nat → Option EntryKind
  | 1 => some .single
  | 2 => some .repeat
  | _ => none

/-- The response list field: a list id, FFh for absent (R196); none for a value that is neither. -/
def responseList (id : Nat) : Option (Option ListId) :=
  if id = 0xFF then some none else (listAt? id).map some

/-- A new entry joins the table DISARMED (R158, R165). -/
def addEntry (e : AttentionEntry) (s : State) : State :=
  let s := s.setAttention { s.attention with table := s.attention.table ++ [e] }
  endAdmin .ok (some s.attention.table.length) s

/-- The response list of an ATTENTION ADD is asked for (R102, R158). -/
def addWithList (e : AttentionEntry) (id : ListId) (s : State) : State :=
  match s.stored id with
  | .loaded _ _ true _ => endAdmin .malformed none s
  | .loaded _ _ false _ => addEntry e (takeReference id s)
  | .empty | .loading _ => endAdmin .notFound none s

/-- ATTENTION ADD whose fields pass (R158). -/
def addChecked (e : AttentionEntry) (s : State) : State :=
  if (s.attentionEntry e.key).isSome then endAdmin .inUse none s
  else if Config.maxAttention ≤ s.attention.table.length then endAdmin .noSpace none s
  else match e.list with
    | some id => addWithList e id s
    | none => addEntry e s

/-- ATTENTION ADD (R158). -/
def attentionAdd (node source kind list : Nat) (cookie : Word) (s : State) : State :=
  match keyAt? node source, entryKindOf kind, responseList list with
  | some key, some kind, some list => addChecked { key, kind, list, cookie } s
  | _, _, _ => endAdmin .malformed none s

/-- ATTENTION ADD. -/
def execAttentionAdd (s : State) : Result :=
  match dispatched s with
  | some (.attentionAdd node source kind list cookie) => taken (attentionAdd node source kind list cookie s)
  | _ => .next s

/-- A change of an entry between DISARMED and ARMED, with the report of the changed desired mask (R159, R167). -/
def setArmed (key : Key) (state : EntryState) (s : State) : State :=
  endAdmin .ok none (desiredChanged key.node (s.modAttention key fun e => { e with state }))

/-- ATTENTION ARM or DISARM of an entry, to the state named (R159). -/
def armTo (target : EntryState) (node source : Nat) (s : State) : State :=
  match keyAt? node source with
  | none => endAdmin .malformed none s
  | some key =>
    match s.attentionEntry key with
    | none => endAdmin .notFound none s
    | some e =>
      match e.state with
      | .disarmed | .armed => if e.state = target then endAdmin .ok none s else setArmed key target s
      | .pending | .running | .posting => endAdmin .badState (some e.state.code) s

/-- ATTENTION ARM (R159). -/
def execAttentionArm (s : State) : Result :=
  match dispatched s with
  | some (.attentionArm node source) => taken (armTo .armed node source s)
  | _ => .next s

/-- ATTENTION DISARM (R159). -/
def execAttentionDisarm (s : State) : Result :=
  match dispatched s with
  | some (.attentionDisarm node source) => taken (armTo .disarmed node source s)
  | _ => .next s

/-- An entry leaves the table: its list's reference is released, and the desired mask of its node changes if it was ARMED
(R160, R167). -/
def removeEntry (e : AttentionEntry) (s : State) : State :=
  let s := s.setAttention { s.attention with table := s.attention.table.filter fun x => !(x.key == e.key) }
  let s := match e.list with
    | some id => releaseReference id s
    | none => s
  let s := if e.state = .armed then desiredChanged e.key.node s else s
  endAdmin .ok (some s.attention.table.length) s

/-- ATTENTION DELETE (R160). -/
def attentionDelete (node source : Nat) (s : State) : State :=
  match keyAt? node source with
  | none => endAdmin .malformed none s
  | some key =>
    match s.attentionEntry key with
    | none => endAdmin .notFound none s
    | some e =>
      match e.state with
      | .disarmed | .armed => removeEntry e s
      | .pending | .running | .posting => endAdmin .badState (some e.state.code) s

/-- ATTENTION DELETE. -/
def execAttentionDelete (s : State) : Result :=
  match dispatched s with
  | some (.attentionDelete node source) => taken (attentionDelete node source s)
  | _ => .next s

/-! ### Cyclic slots -/

/-- Full policies by code (R197). -/
def fullPolicyOf : Nat → Option FullPolicy
  | 1 => some .skip
  | 2 => some .suspend
  | _ => none

/-- The numeric fields of a SLOT START (R161). -/
def slotFields (period offset size : Nat) (base : Addr) : Bool :=
  1 ≤ period && period ≤ 600000 && offset ≤ period && 4 ≤ size && size ≤ 1024 && base.toNat % 32 == 0

/-- The slot as SLOT START sets it (R161, R181). -/
def startedSlot (s : State) (l : ListId) (policy : FullPolicy) (v : Vec) (period offset words : Nat) : Slot :=
  { state := .active, list := l, period, nextDue := s.timebase + 100 * offset, policy, vector := v,
    snapshotSize := snapshotSizeFor words }

/-- SLOT START whose fields pass, of an IDLE slot (R102, R161). -/
def startIdleSlot (k : SlotId) (l : ListId) (policy : FullPolicy) (v : Vec) (period offset size : Nat) (base : Addr)
    (s : State) : State :=
  match s.stored l with
  | .empty | .loading _ => endAdmin .notFound none s
  | .loaded _ words usesOut _ =>
    if usesOut = true ∨ Config.maxSlotWords < words then endAdmin .malformed (some words) s
    else
      endAdmin .ok (some (snapshotSizeFor words))
        (((takeReference l s).setSlot k (startedSlot s l policy v period offset words)).setCaptureRing k
          { base, size, phase := true })

/-- SLOT START (R161). -/
def slotStart (slot list policy vector period offset size : Nat) (base : Addr) (s : State) : State :=
  match slotAt? slot, listAt? list, fullPolicyOf policy, vectorAt? vector with
  | some k, some l, some p, some v =>
    if slotFields period offset size base then
      if (s.slot k).state = .idle then startIdleSlot k l p v period offset size base s
      else endAdmin .badState (some (s.slot k).state.code) s
    else endAdmin .malformed none s
  | _, _, _, _ => endAdmin .malformed none s

/-- SLOT START. -/
def execSlotStart (s : State) : Result :=
  match dispatched s with
  | some (.slotStart slot list policy vector period offset size base) =>
    taken (slotStart slot list policy vector period offset size base s)
  | _ => .next s

/-- SLOT STOP (R162, R189). -/
def slotStop (slot : Nat) (s : State) : State :=
  match slotAt? slot with
  | none => endAdmin .malformed none s
  | some k =>
    if (s.slot k).state = .idle then endAdmin .badState none s
    else
      let s := waitAdmin (.slotStop k) s
      if (s.slot k).run.isSome then s.setSlot k { s.slot k with stopWaiting := true } else finishSlotStop k s

/-- SLOT STOP. -/
def execSlotStop (s : State) : Result :=
  match dispatched s with
  | some (.slotStop slot) => taken (slotStop slot s)
  | _ => .next s

/-- SLOT RESUME (R163, R189). -/
def slotResume (slot : Nat) (s : State) : State :=
  match slotAt? slot with
  | none => endAdmin .malformed none s
  | some k =>
    if (s.slot k).state = .suspended then
      endAdmin .ok (some (s.slot k).missed) (s.setSlot k { s.slot k with state := .active })
    else endAdmin .badState (some (s.slot k).state.code) s

/-- SLOT RESUME. -/
def execSlotResume (s : State) : Result :=
  match dispatched s with
  | some (.slotResume slot) => taken (slotResume slot s)
  | _ => .next s

/-! ### Jobs -/

/-- ABORT JOB (R164): every matching job is reached, and the command reports how many were. Its own record joins completion
ring 0's posting queue behind the records of the jobs it sends to COMPLETING, for which ring 0 may be the completion ring too
(DESIGN CHOICE, assumption 14: R117 and R164 give no order). -/
def abortJob (ring jobId : Nat) (s : State) : State :=
  match jobRingAt? ring with
  | none => endAdmin .malformed none s
  | some r =>
    let reached := reachedBy (fun x => x.sq == r && x.jobId.toNat == jobId) s
    let s := reachAll reached .aborted s
    if reached = [] then endAdmin .notFound (some 0) s else endAdmin .ok (some reached.length) s

/-- ABORT JOB. -/
def execAbortJob (s : State) : Result :=
  match dispatched s with
  | some (.abortJob ring jobId) => taken (abortJob ring jobId s)
  | _ => .next s

end Sys2Proof.Machine
end

