-- ==== Sys2Proof/Machine/HostEnds.lean ====
section
/-! DEFINITION. The ends of a context's host-memory accesses: an inline list read (R108, R109), a staging read (R61) and an
in-buffer write (R60). -/

namespace Sys2Proof.Machine

/-- An inline list read has ended, in a job still ADMITTING (R108 to R110). -/
def inlineEnds (c : CtxId) (result : ReadEnd) (s : State) : State :=
  let s := s.modCtx c fun x => { x with reading := none }
  if (s.ctx c).pending.isSome then endPending c s
  else
    match result with
    | .data bytes => inlineRead c bytes s
    | .error _ => enterCompleting c .bufferFault (s.modCtx c fun x => { x with stopCause := some .bufferFault })

/-- Whether a read's data has the length that was asked for. -/
def readHasLength (result : ReadEnd) (length : Nat) : Bool :=
  match result with
  | .data bytes => bytes.length == length
  | .error _ => true

/-- INLINE_LIST_READ_END (R108 to R110). -/
def execInlineListReadEnd (c : CtxId) (result : ReadEnd) (s : State) : Result :=
  match (s.ctx c).reading with
  | some (.inlineList _ length) =>
    if readHasLength result length then
      if (s.ctx c).state = .admitting then taken (inlineEnds c result s) else taken (readOutlived c s)
    else .fault .hostDataLength
  | _ => .next s

/-- The staged words are in the context: the operation claims its tag (R61, R111). -/
def stagedClaim (c : CtxId) (s : State) : State :=
  match currentStep s c with
  | none => s
  | some p =>
    match nodeAt? p.node with
    | none => s
    | some n =>
      match claimOperation c p n s with
      | .waits s => s
      | .ends e s => endStep c e s

/-- A staging read has ended, in a job still READY (R61). -/
def stagingEnds (c : CtxId) (result : ReadEnd) (s : State) : State :=
  let s := s.modCtx c fun x => { x with reading := none }
  match result with
  | .data bytes => stagedClaim c (s.modCtx c fun x => { x with staging := wordsOf bytes })
  | .error _ => endStep c (.fault .bufferFault) s

/-- STAGING_READ_END (R61, R116, R120). -/
def execStagingReadEnd (c : CtxId) (result : ReadEnd) (s : State) : Result :=
  match (s.ctx c).reading with
  | some (.staging _ length) =>
    if readHasLength result length then
      if (s.ctx c).state = .ready then taken (stagingEnds c result s) else taken (readOutlived c s)
    else .fault .hostDataLength
  | _ => .next s

/-- The write of delivered words has ended (R60, R118). -/
def inWriteEnds (c : CtxId) (w : InBufferWrite) (result : WriteEnd) (s : State) : State :=
  let s := s.modCtx c fun x => { x with inWrite := none }
  match result with
  | .ok => finishDone c w.valid w.delivered s
  | .error _ => endStep c (.fault .bufferFault) s

/-- IN_BUFFER_WRITE_END (R60, R112, R118). -/
def execInBufferWriteEnd (c : CtxId) (result : WriteEnd) (s : State) : Result :=
  match (s.ctx c).inWrite with
  | some w => taken (inWriteEnds c w result s)
  | none => .next s

end Sys2Proof.Machine
end

