-- ==== Sys2Proof/Machine/Frames.lean ====
section
/-! DEFINITION. The wire: a frame's transmission ending (R3), its return (R12, R14, R15), its return timeout (R14, R56), the
busy backoff (R57) and signal loss (R15). -/

namespace Sys2Proof.Machine

/-! ### Transmission -/

/-- The record of the frame being sent takes the instant (R3): it alone has none yet. -/
def stampTransit (now : Instant) (transit : List TransitRecord) : List TransitRecord :=
  transit.map fun r => if r.ended = none then { r with ended := some now } else r

/-- The loop state permits the sending of a frame (R17): in STOPPING, a resend of a COLLECT or CANCEL after a CORRUPT return
alone (R23). DEDUCED (assumption 17): such a resend, once handed over, is sent in its turn even if its operation has since been
withdrawn; R59 has no further sending made, and R72 no resend of a withdrawn CANCEL, and the model takes the sending to be made at
the hand-over to the loop controller. -/
def mayTransmit (s : State) (f : Frame) : Bool :=
  match f.kind with
  | .train => s.loop.state == .training
  | .rate => s.loop.state == .census
  | .census => s.loop.state == .census || s.loop.state == .running
  | .command | .query | .mask | .nodeReset => s.loop.state == .running
  | .collect | .cancel =>
    s.loop.state == .running ||
      (s.loop.state == .stopping && f.retry && !(s.tag f.tag).any fun tr => tr.afterLost)

/-- A frame that waited and that the loop state does not permit is not sent, and its transaction ends (R17): "not performed"
for a withdrawn operation (R59), LOOP_DOWN otherwise (R63). After a first sending that was never made the node has recorded
nothing; a resend leaves its last sending unresolved, and the pair doubtful (R44; assumption 17). -/
def notSent (f : Frame) (s : State) : State :=
  match frameSender f with
  | .loop => s
  | .tag t => match s.tag t with
    | none => s
    | some tr =>
      let e : Ending := if tr.withdrawn then .notPerformed else .loopDown
      if f.retry then endDoubtful t tr e s else endTransaction t tr e s

/-- The first of the frames waiting that may be sent is sent; those before it that may not leave the transmitter (R3, R17). -/
def sendNext : List Frame → State → State
  | [], s => s.setLoop { s.loop with waiting := [] }
  | f :: rest, s =>
    if mayTransmit s f then s.setLoop (beginTransmission f { s.loop with waiting := rest }) else sendNext rest (notSent f s)

/-- A frame's transmission ends, and the next frame waiting is sent (R3), as far as the loop state permits it (R17). -/
def transmitEnds (s : State) : State :=
  sendNext s.loop.waiting
    (s.setLoop { s.loop with transit := stampTransit s.timebase s.loop.transit, sending := none })

/-- FRAME_TRANSMIT_END (R3, R14). -/
def execFrameTransmitEnd (s : State) : Result := if s.loop.sending.isSome then taken (transmitEnds s) else .next s

/-! ### Returns -/

/-- A TRAIN or RATE frame classified without lock (R19, R20): the next TRAIN frame, or the rate switch whatever its class. -/
def ownFrameClassified (s : State) : State :=
  match s.loop.state with
  | .training => handFrame trainFrame s
  | .census => switchRate s
  | .off | .running | .broken | .stopping => s

/-- A TRAIN or RATE frame returned good (R19, R20): in TRAINING an intact pattern is lock. -/
def ownFrameReturned (f : Frame) (s : State) : State :=
  if s.loop.state = .training ∧ f.kind = .train ∧ f.data = trainingPattern then lock s else ownFrameClassified s

/-- A record leaves the transit list (R3). -/
def dropTransit (r : TransitRecord) (s : State) : State := s.setLoop { s.loop with transit := s.loop.transit.erase r }

/-- A CORRUPT class goes to the frame's sender (R14, R55). -/
def classifyCorrupt (r : TransitRecord) (s : State) : State :=
  match r.sender with
  | .loop => ownFrameClassified s
  | .tag t => match s.tag t with
    | some tr => corruptReturn t tr s
    | none => s

/-- A good return goes to the frame's sender (R14, R53). -/
def classifyGood (r : TransitRecord) (f : Frame) (s : State) : State :=
  match r.sender with
  | .loop => ownFrameReturned f s
  | .tag t => match s.tag t with
    | some tr => goodReturn t tr f s
    | none => s

/-- A good return's fields match a record (R14). -/
def TransitRecord.isOf (r : TransitRecord) (f : Frame) : Bool :=
  r.tag == f.tag && r.kind == f.kind && r.addr == f.addr && r.seq == f.seq && r.retry == f.retry

/-- A node's bit in a signal vector: bit n stands for address n (R12). -/
def vectorBit (v : Word) (n : NodeId) : Bool := v.getLsbD (nodeAddr n)

/-- A QUERY is claimed for a node's attention bit (R168). -/
def wantsQuery (s : State) (f : Frame) (n : NodeId) : Bool :=
  vectorBit f.attention n && (s.node n).state == .present && !s.queryRefused.getLsbD n.val
    && !operationExists s fun o => o.owner = .query n

/-- A COLLECT is claimed for a node's collect bit (R70). -/
def wantsCollect (s : State) (f : Frame) (n : NodeId) : Bool :=
  vectorBit f.collect n && (s.node n).state == .present && !operationExists s fun o => o.owner = .collect n

/-- The loop service examines a node's two bits, QUERY before COLLECT (R46, R70, R168). -/
def examineNode (f : Frame) (s : State) (n : NodeId) : State :=
  let s := if wantsQuery s f n then pushClaim { owner := .query n, node := n } s else s
  if wantsCollect s f n then pushClaim { owner := .collect n, node := n } s else s

/-- The loop service examines the signal vectors of a good return, in increasing node address (R12, R26). -/
def examineVectors (f : Frame) (s : State) : State := (List.finRange 30).foldl (examineNode f) s

/-- A frame with a good CRC that matches a record (R14, R15): the lost count becomes 0, its class goes to its sender, and its
signal vectors to the loop service if the loop is RUNNING (assumption 13 says in which order). -/
def goodFrame (r : TransitRecord) (f : Frame) (s : State) : State :=
  let running := s.loop.state == .running
  let s := dropTransit r s
  let s := classifyGood r f (s.setLoop { s.loop with lost := 0 })
  if running then examineVectors f s else s

/-- FRAME_RETURN (R14): a CORRUPT return belongs to the oldest record; a good one that matches no record is discarded. -/
def execFrameReturn (bytes : List Byte) (s : State) : Result :=
  match parseFrame bytes with
  | .corrupt => match s.loop.transit with
    | r :: _ => taken (classifyCorrupt r (dropTransit r s))
    | [] => .next s
  | .unknownKind => .next s
  | .frame f => match s.loop.transit.find? fun r => r.isOf f with
    | some r => taken (goodFrame r f s)
    | none => .next s

/-! ### The return timeout -/

/-- A transaction frame classified LOST (R15, R56, R63). -/
def classifyLost (t : Tag) (s : State) : State :=
  match s.tag t with
  | none => s
  | some tr =>
    if s.loop.state = .census ∨ s.loop.state = .running then
      if s.loop.lost + 1 < 2 then lostReturn t tr (s.setLoop { s.loop with lost := s.loop.lost + 1 })
      else loopBreak .returnsLost s
    else lostReturn t tr s

/-- A frame's return timeout expires (R14). -/
def frameLost (r : TransitRecord) (s : State) : State :=
  let s := dropTransit r s
  match r.sender with
  | .loop => ownFrameClassified s
  | .tag t => classifyLost t s

/-- RETURN_TIMEOUT (R14): of the sender's frame, when its transmission has ended. -/
def execReturnTimeout (sender : FrameSender) (s : State) : Result :=
  match s.loop.transit.find? fun r => r.sender = sender && r.ended.isSome with
  | some r => taken (frameLost r (reachInstant (r.ended.getD 0 + s.params.returnTimeout) s))
  | none => .next s

/-! ### Busy backoff -/

/-- A context claims again after a busy backoff: the node check alone is made again (R57, R85, R113). -/
def contextClaimsAgain (c : CtxId) (op : Operation) (s : State) : State :=
  let s := s.modCtx c fun x => { x with state := .ready, pause := none }
  match nodeCheck (s.node op.node).state with
  | some cause => endStep c (.fault cause) s
  | none => if permits s.loop.state .command then pushClaim op s else endStep c (.fault .loopDown) s

/-- A class S operation claims again after a busy backoff (R46, R57). -/
def serviceClaimsAgain (op : Operation) (s : State) : State :=
  if permits s.loop.state (kindOf op.owner) then pushClaim op s else operationLoopDown s op

/-- A busy backoff ends (R57): the claim joins the tail of its queue. -/
def backoffEnds (op : Operation) (s : State) : State :=
  let s := s.setWindow { s.window with backoff := s.window.backoff.filter fun o => !(o.1.owner == op.owner) }
  match op.owner with
  | .context c => contextClaimsAgain c { op with fresh := true } s
  | _ => serviceClaimsAgain { op with fresh := true } s

/-- BUSY_BACKOFF_EXPIRY (R57, R113). -/
def execBusyBackoffExpiry (owner : Owner) (s : State) : Result :=
  match s.window.backoff.find? fun o => o.1.owner = owner with
  | some (op, due) => taken (backoffEnds op (reachInstant due s))
  | none => .next s

/-! ### Signal loss -/

/-- SIGNAL_LOSS (R15, R21): it breaks the loop from CENSUS or RUNNING and is ignored in every other state. -/
def execSignalLoss (s : State) : Result :=
  match s.loop.state with
  | .census | .running => taken (loopBreak .signalLost s)
  | .off | .training | .broken | .stopping => .next s

end Sys2Proof.Machine
end

