-- ==== Sys2Proof/Machine/Timers.lean ====
section
/-! DEFINITION. The timers of the loop controller, the deferral table, the job engine and the cyclic scheduler (R19, R22, R69,
R113, R116, R182, R183, R188). An expiry of a timer that is not running has no effect (assumption 7). -/

namespace Sys2Proof.Machine

/-- TRAINING_TIMEOUT (R19). -/
def execTrainingTimeout (s : State) : Result :=
  match s.loop.state, s.loop.trainingTimer with
  | .training, some due => taken (trainingFails (reachInstant due s))
  | _, _ => .next s

/-- RETRAIN_TIMER_EXPIRY (R22). -/
def execRetrainTimerExpiry (s : State) : Result :=
  match s.loop.state, s.loop.retrainTimer with
  | .broken, some due => taken (startRequest (reachInstant due s))
  | _, _ => .next s

/-- A WAITING entry's deferral deadline (R69): its owner faults DEFER_EXPIRED and the entry is orphaned. -/
def deferExpires (d : DeferId) (c : CtxId) (s : State) : State := orphanEntry d (deliver c (.fault .deferExpired) s)

/-- DEFER_DEADLINE_EXPIRY (R69). -/
def execDeferDeadlineExpiry (d : DeferId) (s : State) : Result :=
  match s.entry d with
  | .waiting c _ _ _ due => taken (deferExpires d c (reachInstant due s))
  | .free | .reserved .. | .orphaned .. | .cancelling .. => .next s

/-- JOB_DEADLINE_EXPIRY (R116). The deadline of a job that has entered COMPLETING is absent. -/
def execJobDeadlineExpiry (c : CtxId) (s : State) : Result :=
  match (s.ctx c).deadline with
  | some due => taken (reachJob c .deadline (reachInstant due s))
  | none => .next s

/-- An AWAIT's next try makes its checks and its claim (R89, R113). -/
def nextTry (c : CtxId) (s : State) : State :=
  match currentStep s c with
  | none => s
  | some p => nextOperation c p (s.modCtx c fun x => { x with state := .ready, pause := none })

/-- AWAIT_INTERVAL_EXPIRY (R89, R113). -/
def execAwaitIntervalExpiry (c : CtxId) (s : State) : Result :=
  match (s.ctx c).pause with
  | some (.await due) => taken (nextTry c (reachInstant due s))
  | _ => .next s

/-- A DELAY completes (R92, R113). -/
def delayEnds (c : CtxId) (s : State) : State :=
  endStep c .completed (s.modCtx c fun x => { x with state := .ready, pause := none })

/-- DELAY_EXPIRY (R92, R113). -/
def execDelayExpiry (c : CtxId) (s : State) : Result :=
  match (s.ctx c).pause with
  | some (.delay due) => taken (delayEnds c (reachInstant due s))
  | _ => .next s

/-! ### Periods -/

/-- A period without a run (R183). -/
def missPeriod (k : SlotId) (s : State) : State := s.setSlot k { s.slot k with missed := missedUp (s.slot k).missed }

/-- An expiry that finds the sequence number at its largest value (R188). -/
def sequenceExhausted (k : SlotId) (s : State) : State := suspendSlot k .sequenceExhausted (missPeriod k s)

/-- A run starts on an internal context (R185). -/
def startSlotRun (k : SlotId) (c : CtxId) (s : State) : State :=
  let x := s.slot k
  startRun c (.slot k) x.list
    (s.setSlot k { x with run := some { sequence := x.sequence, start := s.timebase, ctx := c } })

/-- An ACTIVE slot's expiry while the loop is RUNNING (R183). -/
def activeExpiry (k : SlotId) (s : State) : State :=
  match (s.slot k).run, freeIn internalContexts s with
  | none, some c => startSlotRun k c s
  | _, _ => missPeriod k s

/-- An ACTIVE slot's expiry while the loop is not RUNNING (R183, R190). -/
def waitForLoop (k : SlotId) (s : State) : State :=
  let s := missPeriod k s
  notifySlot k .loopDown (s.setSlot k { s.slot k with state := .waitingLoop })

/-- What a period expiry does after the sequence number has risen (R183). -/
def expiryByState (k : SlotId) (s : State) : State :=
  match (s.slot k).state with
  | .active => if s.loop.state = .running then activeExpiry k s else waitForLoop k s
  | .waitingLoop | .suspended => missPeriod k s
  | .idle => s

/-- A period expiry (R182, R183, R188): the grid advances, then the sequence number, then the slot's state decides. -/
def periodExpires (k : SlotId) (s : State) : State :=
  let x := s.slot k
  let x := { x with nextDue := x.nextDue + 100 * x.period }
  if x.sequence = Config.maxCount then sequenceExhausted k (s.setSlot k x)
  else expiryByState k (s.setSlot k { x with sequence := x.sequence + 1 })

/-- PERIOD_EXPIRY (R182, R183, R188). An IDLE slot has no pending expiry. -/
def execPeriodExpiry (k : SlotId) (s : State) : Result :=
  match (s.slot k).state with
  | .idle => .next s
  | .active | .waitingLoop | .suspended => taken (periodExpires k (reachInstant (s.slot k).nextDue s))

end Sys2Proof.Machine
end

