-- ==== Sys2Proof/Machine/Posting.lean ====
section
/-! DEFINITION. The ends of the record writes: event records (R136, R194), completion records (R131, R133, R138), snapshots
(R137), and the moderation timers (R134). -/

namespace Sys2Proof.Machine

/-! ### Event records -/

/-- The event ring after a record has been written (R125, R134). -/
def eventAdvanced (r : EventRing) (now : Instant) : EventRing :=
  { r with
    writing := none
    producer := nextIndex r.producer r.size
    phase := nextPhase r.phase r.producer r.size
    moderation := r.moderation.written now }

/-- The message a written record brings, if it brings one (R134). -/
def messageIfDue (v : Vec) (m : Moderation) (s : State) : State :=
  if (m.record s.timebase).due then sendMessage v s else s

/-- The notice whose record was written leaves the queue, or, when refreshed meanwhile, moves to the tail (R194). -/
def settleNotice (s : State) : State :=
  match s.notices with
  | [] => s
  | n :: rest =>
    if n.heldChange then s.setNotices (rest ++ [{ n with heldChange := false }])
    else
      match n.subject with
      | .attention key => postingEnds key (s.setNotices rest)
      | _ => s.setNotices rest

/-- An event record write has ended without error (R125, R134, R194). -/
def eventWritten (s : State) : State :=
  let r := s.rings.event
  resumeEventRing
    (settleNotice (messageIfDue r.vector r.moderation (s.setEventRing (eventAdvanced r s.timebase))))

/-- EVENT_RECORD_WRITTEN (R194). -/
def execEventRecordWritten (s : State) : Result :=
  if s.rings.event.writing.isSome then taken (eventWritten s) else .next s

/-- The notice at the head keeps its place and its content after a failed write (R194). -/
def keepNotice (s : State) : State :=
  match s.notices with
  | [] => s
  | n :: rest => s.setNotices ({ n with heldChange := false } :: rest)

/-- An event record write has ended with an error (R136, R194). -/
def eventFails (s : State) : State :=
  let r := s.rings.event
  let s := s.setEventRing { r with state := .faulted, writing := none, moderation := r.moderation.clear }
  resumeEventRing (keepNotice (s.setRegs { s.regs with eventFault := true }))

/-- EVENT_WRITE_ERROR (R136). -/
def execEventWriteError (s : State) : Result :=
  if s.rings.event.writing.isSome then taken (eventFails s) else .next s

/-! ### Completion records -/

/-- The completion ring after its head record has been written (R125, R131, R134). -/
def compAdvanced (r : CompRing) (now : Instant) : CompRing :=
  { r with
    writing := none
    queue := r.queue.tail
    producer := nextIndex r.producer r.size
    phase := nextPhase r.phase r.producer r.size
    moderation := r.moderation.written now }

/-- A completion record write has ended without error: the source is told (R131). -/
def completionWritten (k : RingId) (s : State) : State :=
  let r := s.compRing k
  let s := messageIfDue r.vector r.moderation (s.setCompRing k (compAdvanced r s.timebase))
  match r.queue with
  | p :: _ => releaseSource p s
  | [] => s

/-- COMPLETION_RECORD_WRITTEN (R131). -/
def execCompletionRecordWritten (k : RingId) (s : State) : Result :=
  if (s.compRing k).writing.isSome then taken (completionWritten k s) else .next s

/-- A completion record write has ended with an error: FAULTED (R133), or FATAL for ring 0 (R138). -/
def completionFails (k : RingId) (addr : Addr) (s : State) : State :=
  if k = 0 then enterFatal addr s else faultRing k addr s

/-- COMPLETION_WRITE_ERROR (R133, R138). -/
def execCompletionWriteError (k : RingId) (addr : Addr) (s : State) : Result :=
  if (s.compRing k).writing.isSome then taken (completionFails k addr s) else .next s

/-! ### Moderation timers -/

/-- The message of a moderation timer's expiry, when records are unsignalled (R134). -/
def timerMessage (v : Vec) (m : Moderation) (s : State) : State := if 0 < m.unsignalled then sendMessage v s else s

/-- A completion ring's moderation timer expires (R134). -/
def compTimer (k : RingId) (s : State) : State :=
  let r := s.compRing k
  timerMessage r.vector r.moderation (s.setCompRing k { r with moderation := r.moderation.clear })

/-- The event ring's moderation timer expires (R134). -/
def eventTimer (s : State) : State :=
  let r := s.rings.event
  timerMessage r.vector r.moderation (s.setEventRing { r with moderation := r.moderation.clear })

/-- MODERATION_TIMER_EXPIRY (R134). -/
def execModerationTimerExpiry (ring : ModeratedRing) (s : State) : Result :=
  match ring with
  | .completion k => match (s.compRing k).moderation.timer with
    | some due => .next (compTimer k (reachInstant due s))
    | none => .next s
  | .event => match s.rings.event.moderation.timer with
    | some due => .next (eventTimer (reachInstant due s))
    | none => .next s

/-! ### Snapshots -/

/-- The capture ring after its snapshot has been written (R125, R137). -/
def captureAdvanced (r : CaptureRing) : CaptureRing :=
  { r with
    writing := none
    producer := nextIndex r.producer r.size
    phase := nextPhase r.phase r.producer r.size }

/-- A snapshot write has ended (R137, R187): posted with one message, or a capture fault. -/
def snapshotWritten (k : SlotId) (result : WriteEnd) (s : State) : State :=
  let r := s.captureRing k
  match result with
  | .ok => answerOffer k .posted (sendMessage (s.slot k).vector (s.setCaptureRing k (captureAdvanced r)))
  | .error _ => answerOffer k .fault (s.setCaptureRing k { r with writing := none })

/-- SNAPSHOT_WRITE_END (R137, R187). -/
def execSnapshotWriteEnd (k : SlotId) (result : WriteEnd) (s : State) : Result :=
  if (s.captureRing k).writing.isSome then taken (snapshotWritten k result s) else .next s

end Sys2Proof.Machine
end

