-- ==== Sys2Proof/Machine/Dispatch.lean ====
section
/-! DEFINITION. A command's effect on everything but the queue: one arm per row of spec/opcode_table.json. -/

namespace Sys2Proof.Machine

def exec (i : Instr) (s : State) : Host.Outcome State Fault Refusal :=
  match i with
  | .powerOn => Sys2Proof.Machine.execPowerOn s
  | .pcieReset => Sys2Proof.Machine.execPcieReset s
  | .functionReset => Sys2Proof.Machine.execFunctionReset s
  | .initialisationEnd => Sys2Proof.Machine.execInitialisationEnd s
  | .enableSet => Sys2Proof.Machine.execEnableSet s
  | .enableCleared => Sys2Proof.Machine.execEnableCleared s
  | .adminRegisterWrite reg value => Sys2Proof.Machine.execAdminRegisterWrite reg value s
  | .registerWrite offset value => Sys2Proof.Machine.execRegisterWrite offset value s
  | .producerIndexWrite ring value => Sys2Proof.Machine.execProducerIndexWrite ring value s
  | .completionConsumerIndexWrite ring value => Sys2Proof.Machine.execCompletionConsumerIndexWrite ring value s
  | .eventConsumerIndexWrite value => Sys2Proof.Machine.execEventConsumerIndexWrite value s
  | .captureConsumerIndexWrite slot value => Sys2Proof.Machine.execCaptureConsumerIndexWrite slot value s
  | .msixVectorMaskWrite vector masked => Sys2Proof.Machine.execMsixVectorMaskWrite vector masked s
  | .fetchReadEnd result => Sys2Proof.Machine.execFetchReadEnd result s
  | .adminFetchReadEnd result => Sys2Proof.Machine.execAdminFetchReadEnd result s
  | .identify => Sys2Proof.Machine.execIdentify s
  | .setParameters => Sys2Proof.Machine.execSetParameters s
  | .createSq => Sys2Proof.Machine.execCreateSq s
  | .deleteSq => Sys2Proof.Machine.execDeleteSq s
  | .createCq => Sys2Proof.Machine.execCreateCq s
  | .deleteCq => Sys2Proof.Machine.execDeleteCq s
  | .setEventRing => Sys2Proof.Machine.execSetEventRing s
  | .loopStart => Sys2Proof.Machine.execLoopStart s
  | .loopStop => Sys2Proof.Machine.execLoopStop s
  | .census => Sys2Proof.Machine.execCensus s
  | .nodeReset => Sys2Proof.Machine.execNodeReset s
  | .nodeTableRead => Sys2Proof.Machine.execNodeTableRead s
  | .loadList => Sys2Proof.Machine.execLoadList s
  | .unloadList => Sys2Proof.Machine.execUnloadList s
  | .attentionAdd => Sys2Proof.Machine.execAttentionAdd s
  | .attentionArm => Sys2Proof.Machine.execAttentionArm s
  | .attentionDisarm => Sys2Proof.Machine.execAttentionDisarm s
  | .attentionDelete => Sys2Proof.Machine.execAttentionDelete s
  | .slotStart => Sys2Proof.Machine.execSlotStart s
  | .slotStop => Sys2Proof.Machine.execSlotStop s
  | .slotResume => Sys2Proof.Machine.execSlotResume s
  | .abortJob => Sys2Proof.Machine.execAbortJob s
  | .adminBufferWriteEnd result => Sys2Proof.Machine.execAdminBufferWriteEnd result s
  | .listLoadReadEnd result => Sys2Proof.Machine.execListLoadReadEnd result s
  | .inlineListReadEnd ctx result => Sys2Proof.Machine.execInlineListReadEnd ctx result s
  | .stagingReadEnd ctx result => Sys2Proof.Machine.execStagingReadEnd ctx result s
  | .inBufferWriteEnd ctx result => Sys2Proof.Machine.execInBufferWriteEnd ctx result s
  | .frameTransmitEnd => Sys2Proof.Machine.execFrameTransmitEnd s
  | .frameReturn bytes => Sys2Proof.Machine.execFrameReturn bytes s
  | .returnTimeout sender => Sys2Proof.Machine.execReturnTimeout sender s
  | .busyBackoffExpiry owner => Sys2Proof.Machine.execBusyBackoffExpiry owner s
  | .signalLoss => Sys2Proof.Machine.execSignalLoss s
  | .trainingTimeout => Sys2Proof.Machine.execTrainingTimeout s
  | .retrainTimerExpiry => Sys2Proof.Machine.execRetrainTimerExpiry s
  | .deferDeadlineExpiry entry => Sys2Proof.Machine.execDeferDeadlineExpiry entry s
  | .jobDeadlineExpiry ctx => Sys2Proof.Machine.execJobDeadlineExpiry ctx s
  | .awaitIntervalExpiry ctx => Sys2Proof.Machine.execAwaitIntervalExpiry ctx s
  | .delayExpiry ctx => Sys2Proof.Machine.execDelayExpiry ctx s
  | .periodExpiry slot => Sys2Proof.Machine.execPeriodExpiry slot s
  | .eventRecordWritten => Sys2Proof.Machine.execEventRecordWritten s
  | .eventWriteError => Sys2Proof.Machine.execEventWriteError s
  | .completionRecordWritten ring => Sys2Proof.Machine.execCompletionRecordWritten ring s
  | .completionWriteError ring addr => Sys2Proof.Machine.execCompletionWriteError ring addr s
  | .moderationTimerExpiry ring => Sys2Proof.Machine.execModerationTimerExpiry ring s
  | .snapshotWriteEnd slot result => Sys2Proof.Machine.execSnapshotWriteEnd slot result s

end Sys2Proof.Machine
end

