-- ==== Sys2Proof/Machine/Step.lean ====
section
/-! DEFINITION. The step: the command at the front of the queue, or, with none waiting, one microsecond of the timebase. -/

namespace Sys2Proof.Machine

/-- The timebase one microsecond on (R180): what follows its largest value is free (assumption 1). -/
def nextInstant (i : Instant) : Instant := if i + 1 < Config.timebaseEnd then i + 1 else Config.timebaseAfterLast.toNat

/-- A microsecond passes (R180): the timebase counts once READY is set (assumption 2). -/
def tick (s : State) : State := if s.regs.ready then s.setTimebase (nextInstant s.timebase) else s

/-- One step: the front command with the queue's rest, or a microsecond when no command waits (assumption 2). -/
def step (s : State) : Host.Outcome State Fault Refusal :=
  match s.pending with
  | [] => .next (tick s)
  | c :: rest => exec c { s with pending := rest }

/-- The state with the command a word spells at the front of its queue; no word spells one. -/
def State.withFetchWord (s : State) (nbits w : Nat) : State :=
  match decodeTableWord nbits w with
  | some c => { s with pending := c :: s.pending }
  | none => s

end Sys2Proof.Machine
end

