-- ==== Sys2Proof/Machine/Flags.lean ====
section
/-! DEFINITION. The register window as the host reads it: the bits of STATUS and CONTROL and the index slots (R139 to R142,
R202). -/

namespace Sys2Proof.Machine

/-- QUIESCED: ENABLE clear, no fetch read of the arbiter in progress, every ring context FREE (R141). -/
def quiesced (s : State) : Bool :=
  !s.regs.enable && s.rings.fetch.isNone
    && (List.finRange 12).all fun c => (vget s.jobs ⟨c.val, by omega⟩).state == .free

/-- STATUS with READY set (R141, R202). -/
def statusBits (s : State) : Nat :=
  1 + 2 * s.regs.enable.toNat + 4 * (quiesced s).toNat + 8 * s.regs.fatal.toNat + 16 * s.regs.eventFault.toNat
    + 32 * s.regs.configError.toNat

/-- STATUS: every bit is clear until READY is set (R141). -/
def statusWord (s : State) : Word := if s.regs.ready then BitVec.ofNat 32 (statusBits s) else 0

/-- CONTROL: ENABLE as it stands; FUNCTION RESET reads 1 during a reset and the initialisation that follows (R140, R142). -/
def controlWord (s : State) : Word := if s.regs.ready then BitVec.ofNat 32 s.regs.enable.toNat else 2

/-- What an index slot reads (R139): an ABSENT ring's indices are 0 (R126, R131, R136), and so is an IDLE slot's ring (R137). -/
def indexSlot (s : State) (k : Nat) : Nat :=
  if h : k < 8 then (vget s.rings.sub ⟨k, h⟩).producer
  else if h : k < 16 then (vget s.rings.comp ⟨k - 8, by omega⟩).consumer
  else if k = 16 then s.rings.event.consumer
  else if h : k < 25 then (vget s.rings.capture ⟨k - 17, by omega⟩).consumer
  else 0

/-- A read of the register window (R139, R202). An offset not in R202's table reads 0; until READY is set the reads return
the reset values (R142). -/
def readRegister (s : State) (offset : Nat) : Word :=
  if offset = 0x00 then Config.ident
  else if offset = 0x04 then controlWord s
  else if offset = 0x08 then statusWord s
  else if s.regs.ready = false then 0
  else if offset = 0x10 then s.regs.adminSqBase.setWidth 32
  else if offset = 0x14 then (s.regs.adminSqBase >>> 32).setWidth 32
  else if offset = 0x18 then s.regs.adminSqSize
  else if offset = 0x20 then s.regs.adminCqBase.setWidth 32
  else if offset = 0x24 then (s.regs.adminCqBase >>> 32).setWidth 32
  else if offset = 0x28 then s.regs.adminCqSize
  else if 0x40 ≤ offset ∧ offset % 4 = 0 then BitVec.ofNat 32 (indexSlot s ((offset - 0x40) / 4))
  else 0

end Sys2Proof.Machine
end

