-- ==== Sys2Proof/Safety.lean ====
section
/-! DEFINITION. What a safe run is, in the terms the statements use: the laws of the device that the manual states over its
tables and rings, and a step that goes on. -/

namespace Sys2Proof.Machine

/-- No two notices of the queue are about the same subject (R192). -/
def NoticesDistinct (s : State) : Prop := (s.notices.map Notice.subject).Nodup

/-- No two attention entries have the same key, and there are at most 64 (R165). -/
def AttentionDistinct (s : State) : Prop :=
  (s.attention.table.map AttentionEntry.key).Nodup ∧ s.attention.table.length ≤ Config.maxAttention

/-- The lists LOADING and LOADED fit in the step slots (R99). -/
def StoreFits (s : State) : Prop := (s.lists.toList.map StoredList.slots).sum ≤ Config.stepSlots

/-- A ring the part writes (R124): both indices below the size, and a record is being written only while the ring is not
full. A ring with every field 0 has no size and no record. -/
def RingFits (producer consumer size : Nat) (writing : Bool) : Prop :=
  (0 < size → producer < size ∧ consumer < size) ∧
    (writing = true → 0 < size ∧ (producer + 1) % size ≠ consumer)

/-- Every ring's indices below its size: the submission rings, which the host fills (R124, R126), and the rings the part writes,
completion, event and capture alike (R124); and the fetch arbiter's pointer on one of rings 1-7 (R127). -/
def RingsFit (s : State) : Prop :=
  1 ≤ s.rings.pointer.val
    ∧ (∀ r, 0 < (s.subRing r).size → (s.subRing r).producer < (s.subRing r).size ∧ (s.subRing r).consumer < (s.subRing r).size)
    ∧ (∀ k, RingFits (s.compRing k).producer (s.compRing k).consumer (s.compRing k).size (s.compRing k).writing.isSome)
    ∧ RingFits s.rings.event.producer s.rings.event.consumer s.rings.event.size s.rings.event.writing.isSome
    ∧ ∀ k, RingFits (s.captureRing k).producer (s.captureRing k).consumer (s.captureRing k).size
        (s.captureRing k).writing.isSome

/-- A ring size the host may give (R124): a power of two from 16 to 4096. -/
def RingSize (n : Nat) : Prop := ∃ k, 4 ≤ k ∧ k ≤ 12 ∧ n = 2 ^ k

/-- The lowest and highest value of a parameter by its number (R146). -/
def paramBounds : Nat → Nat × Nat
  | 1 => (50, 10000)
  | 2 => (0, 7)
  | 3 => (1, 64)
  | 4 => (20, 5000)
  | 5 => (1, 15)
  | 6 => (1, 60000)
  | _ => (0, 60000)

/-- A value lies in its parameter's range (R146). -/
def ParamAllowed (number value : Nat) : Prop := (paramBounds number).1 ≤ value ∧ value ≤ (paramBounds number).2

/-- A consumer index value that does not pass the producer index (R132): it lies below the size, and the records from the
consumer index forward to it are at most those forward to the producer index. -/
def TakesRecords (producer consumer size value : Nat) : Prop :=
  value < size ∧ (value + size - consumer) % size ≤ (producer + size - consumer) % size

/-- A ring context whose job a deadline, an abort or a deletion can reach (R116, R117). -/
def Reachable (s : State) (c : CtxId) : Prop :=
  c.val < 12 ∧ (s.ctx c).state ≠ .free ∧ (s.ctx c).state ≠ .completing

/-- A loop frame whose fields fit the places R201 gives them, with a data word count of at most 16 (R4). -/
def FrameFits (f : Frame) : Prop :=
  f.addr < 256 ∧ f.point < 256 ∧ f.count < 256 ∧ f.deferId < 256 ∧ f.delivered < 256 ∧ f.replyId < 256
    ∧ f.data.length ≤ Config.maxFrameWords

/-- The number spelled by the `n` bytes at an offset, least significant first (R197); a byte past the end is 0. -/
def littleEndian (bytes : List Byte) (offset : Nat) : Nat → Nat
  | 0 => 0
  | n + 1 => (bytes.getD offset 0).toNat + 256 * littleEndian bytes (offset + 1) n

/-- A buffer of a submission entry passes (R107). -/
def BufferPasses (addr length : Nat) : Prop := length % 4 = 0 ∧ length ≤ 1048576 ∧ (0 < length → addr % 4 = 0)

/-- The checks of R107 on a submission entry's own fields, at the offsets of R197. -/
def EntryPasses (e : List Byte) : Prop :=
  (littleEndian e 2 1 = 1 ∨ littleEndian e 2 1 = 2) ∧
  (littleEndian e 2 1 = 1 → 1 ≤ littleEndian e 4 2 ∧ littleEndian e 4 2 ≤ 256 ∧ littleEndian e 8 8 % 4 = 0) ∧
  (littleEndian e 2 1 = 2 → littleEndian e 6 1 ≤ 63) ∧
  BufferPasses (littleEndian e 16 8) (littleEndian e 24 4) ∧ BufferPasses (littleEndian e 32 8) (littleEndian e 28 4) ∧
  (littleEndian e 3 1 = 1 ∨ littleEndian e 3 1 = 2)

/-- The 16-byte step record at an index of a list as read from host memory (R200). -/
def stepRecord (bytes : List Byte) (i : Nat) : List Byte := (bytes.drop (16 * i)).take 16

/-- The checks of R97 on a step record, at the offsets of R200, and no others (assumption 18). -/
def StepRecordPasses (r : List Byte) : Prop :=
  (1 ≤ littleEndian r 0 1 ∧ littleEndian r 0 1 ≤ 8) ∧
  (littleEndian r 3 1 = 1 ∨ littleEndian r 3 1 = 2) ∧ (littleEndian r 4 1 = 1 ∨ littleEndian r 4 1 = 2) ∧
  (littleEndian r 0 1 ≠ 8 → 1 ≤ littleEndian r 1 1 ∧ littleEndian r 1 1 ≤ 30 ∧ littleEndian r 2 1 ≤ 63) ∧
  (littleEndian r 0 1 = 1 ∨ littleEndian r 0 1 = 2 → 1 ≤ littleEndian r 6 2 ∧ littleEndian r 6 2 ≤ 16) ∧
  (littleEndian r 0 1 = 6 ∨ littleEndian r 0 1 = 7 → 1 ≤ littleEndian r 6 2 ∧ littleEndian r 6 2 ≤ 4096) ∧
  (littleEndian r 4 1 = 2 → littleEndian r 0 1 = 2 ∧ littleEndian r 6 2 = 1) ∧
  (littleEndian r 0 1 = 5 →
    1 ≤ littleEndian r 10 2 ∧ 1 ≤ littleEndian r 8 2 ∧ littleEndian r 8 2 ≤ 10000)

/-- The kind byte of a step record (R200). -/
def stepKindByte : StepKind → Nat
  | .read => 1
  | .write => 2
  | .pulse => 3
  | .test => 4
  | .await => 5
  | .blockRead => 6
  | .blockWrite => 7
  | .delay => 8

/-- The fault policy byte of a step record (R200). -/
def policyByte : FaultPolicy → Nat
  | .stop => 1
  | .continue => 2

/-- The data source byte of a step record (R200). -/
def sourceByte : DataSource → Nat
  | .outBuffer => 1
  | .immediate => 2

/-- The step that a step record's bytes spell (R200). -/
def StepReadFrom (r : List Byte) (p : Step) : Prop :=
  stepKindByte p.kind = littleEndian r 0 1 ∧ p.node = littleEndian r 1 1 ∧ p.point = littleEndian r 2 1 ∧
  policyByte p.policy = littleEndian r 3 1 ∧ sourceByte p.source = littleEndian r 4 1 ∧
  p.requireValid = (littleEndian r 5 1).testBit 0 ∧ p.endOnShort = (littleEndian r 5 1).testBit 1 ∧
  p.count = littleEndian r 6 2 ∧ p.interval = littleEndian r 8 2 ∧ p.limit = littleEndian r 10 2 ∧
  p.immediate.toNat = littleEndian r 12 4

/-- The command that an administrative entry spells, by the code in byte 2 and at the offsets of R197. -/
def adminCommandAt (e : List Byte) : AdminCommand :=
  let byte (i : Nat) : Nat := littleEndian e i 1
  let half (i : Nat) : Nat := littleEndian e i 2
  let long (i : Nat) : Nat := littleEndian e i 4
  let addr : Addr := BitVec.ofNat 64 (littleEndian e 16 8)
  match byte 2 with
  | 1 => .identify addr
  | 2 => .setParameters (BitVec.ofNat 8 (byte 4))
      { returnTimeout := half 8, crcLimit := byte 10, busyLimit := byte 11, busyBackoff := half 12, silence := byte 14,
        deferDeadline := half 16, retrain := half 18 }
  | 3 => .createSq (byte 4) (byte 5) (byte 6) (half 8) addr
  | 4 => .deleteSq (byte 4)
  | 5 => .createCq (byte 4) (byte 5) (byte 6) (half 8) (half 10) addr
  | 6 => .deleteCq (byte 4)
  | 7 => .setEventRing (byte 5) (byte 6) (half 8) (half 10) addr
  | 8 => .loopStart
  | 9 => .loopStop
  | 10 => .census
  | 11 => .nodeReset (byte 4)
  | 12 => .nodeTableRead addr
  | 13 => .loadList (byte 4) (half 8) addr
  | 14 => .unloadList (byte 4)
  | 15 => .attentionAdd (byte 4) (byte 5) (byte 6) (byte 7) (BitVec.ofNat 32 (long 8))
  | 16 => .attentionArm (byte 4) (byte 5)
  | 17 => .attentionDisarm (byte 4) (byte 5)
  | 18 => .attentionDelete (byte 4) (byte 5)
  | 19 => .slotStart (byte 4) (byte 5) (byte 6) (byte 7) (long 8) (long 12) (half 24) addr
  | 20 => .slotStop (byte 4)
  | 21 => .slotResume (byte 4)
  | 22 => .abortJob (byte 4) (half 6)
  | _ => .unknown

/-- The kind byte of a frame (R201). -/
def frameKindByte : FrameKind → Nat
  | .train => 1
  | .rate => 2
  | .census => 3
  | .command => 4
  | .query => 5
  | .mask => 6
  | .collect => 7
  | .cancel => 8
  | .nodeReset => 9

/-- The operation byte of a frame (R201). -/
def operationByte : Option CommandOp → Nat
  | none => 0
  | some .read => 1
  | some .write => 2
  | some .pulse => 3
  | some .test => 4

/-- A frame may be sent in the present loop state (R17); in STOPPING, a resend of a COLLECT or CANCEL after a CORRUPT return
alone (R23). -/
def LoopPermits (s : State) (f : Frame) : Prop :=
  match f.kind with
  | .train => s.loop.state = .training
  | .rate => s.loop.state = .census
  | .census => s.loop.state = .census ∨ s.loop.state = .running
  | .command | .query | .mask | .nodeReset => s.loop.state = .running
  | .collect | .cancel => s.loop.state = .running ∨
      s.loop.state = .stopping ∧ f.retry = true ∧ ∀ tr, s.tag f.tag = some tr → tr.afterLost = false

/-- Bytes that come back are the good return `f` of the frame that a transaction has on the loop: no sequence probe is under
way, and no node asks for service (R12, R14). The loop may be in any state, and the frame's transmission may have ended or
not (assumption 38). -/
structure ReturnReaches (s : State) (bytes : List Byte) (f : Frame) (r : TransitRecord) (t : Tag) (tr : Transaction) :
    Prop where
  arrives : parseFrame bytes = .frame f
  found : (s.loop.transit.find? fun r => r.isOf f) = some r
  sender : r.sender = .tag t
  held : s.tag t = some tr
  own : tr.probe = false
  attention : f.attention = 0
  collect : f.collect = 0

/-- What a good return of a kind of frame does before its owner is told (R15, R33, R41, R43, R53): the record leaves the
transit list, the lost count is 0, the pair and the silence count are settled, and the tag is FREE. -/
def tagReleased (s : State) (kind : FrameKind) (f : Frame) (r : TransitRecord) (t : Tag) (tr : Transaction) : State :=
  let n := tr.operation.node
  (countKind kind n f.status (settlePair kind n t f.status
    (s.setLoop { s.loop with transit := s.loop.transit.erase r, lost := 0 }))).setTag t none

/-- The same with the reservation, if there is one, back to FREE (R51, R68). -/
def reservationReleased (s : State) (kind : FrameKind) (f : Frame) (r : TransitRecord) (t : Tag) (tr : Transaction) :
    State :=
  match tr.reservation with
  | some d => (tagReleased s kind f r t tr).setEntry d .free
  | none => tagReleased s kind f r t tr

/-- A context that an operation's outcome has reached: what it waited for is over (R112, R113). -/
def outcomeTaken (c : CtxId) (s : State) : State :=
  s.setCtx c { s.ctx c with deferredOp := none, pause := none }

/-- The job outcome of an abort, a deadline or a ring deletion (R116, R117). -/
def pendingOutcome : Pending → JobOutcome
  | .aborted => .aborted
  | .deadline => .deadline
  | .ringDeleted => .ringDeleted

/-- No record of the hand-over list can be handed over: each context of it has a read in progress, or stands behind one
whose record goes to the same completion ring (R120; assumption 28). -/
def HandOverWaits (s : State) : Prop :=
  ∀ before c after, s.handOver = before ++ c :: after →
    (s.ctx c).reading ≠ none ∨ ∃ d ∈ before, (s.ctx d).cq = (s.ctx c).cq

/-- The offset of an admin register (R202). -/
def adminOffset : AdminRegister → Nat
  | .sqBaseLow => 0x10
  | .sqBaseHigh => 0x14
  | .sqSize => 0x18
  | .cqBaseLow => 0x20
  | .cqBaseHigh => 0x24
  | .cqSize => 0x28

/-- A command that goes on: neither a fault nor a refusal, with the queue behind it untouched. -/
def GoesOn (i : Instr) (s : State) : Prop := ∃ t, exec i s = .next t ∧ t.pending = s.pending

end Sys2Proof.Machine
end

