-- ==== Sys2Proof/Certificates/Slice0/Obligations.lean ====
section
/-! DEFINITION. The statements for the provers. A statement about a command names the state `u` that its own effect leaves, by
the fields that differ from `s`: everything else is as in `s`. What the part then does by itself is `react` (assumption 8), which
FetchDecisionSpendsCredit states over the ten actions; it is the state itself when none of them is enabled (`react_settled`). -/

open Sys2Proof Sys2Proof.Machine

/-! ### The step -/

/-- The step takes the command at the front of the queue and runs it with the queue's rest. -/
def Obligations.StepRunsFrontCommand : Prop :=
  ∀ (c : Instr) (rest : List Instr) (s : State), s.pending = c :: rest → step s = exec c { s with pending := rest }

/-- MODEL'S CHOICE (assumptions 1 and 2): with no command waiting, a step is one microsecond of the timebase once READY is
set; what follows the largest value is the free value, whatever it is. -/
def Obligations.EmptyQueueCountsOneMicrosecond : Prop :=
  ∀ s : State, s.pending = [] →
    (s.regs.ready = false → step s = .next s) ∧
    (s.regs.ready = true → s.timebase + 1 < 2 ^ 64 → step s = .next { s with timebase := s.timebase + 1 }) ∧
    (s.regs.ready = true → 2 ^ 64 ≤ s.timebase + 1 →
      step s = .next { s with timebase := Config.timebaseAfterLast.toNat })

/-- Every command goes on to a next state and leaves the queue of the commands behind it alone. The one stop is a host that
ends a read in progress with another number of bytes than the part asked for (MODEL'S CHOICE, assumption 5). -/
def Obligations.EveryCommandGoesOn : Prop :=
  ∀ (i : Instr) (s : State), GoesOn i s ∨
    (exec i s = .fault .hostDataLength ∧ ∃ bytes : List Byte,
      (i = .fetchReadEnd (.data bytes) ∧ s.rings.fetch ≠ none ∧ bytes.length ≠ 64) ∨
      (i = .adminFetchReadEnd (.data bytes) ∧ s.admin.fetching ≠ none ∧ bytes.length ≠ 64) ∨
      (∃ (l : ListId) (count : Nat), i = .listLoadReadEnd (.data bytes) ∧ adminWait s = some (.loadList l) ∧
        s.stored l = .loading count ∧ bytes.length ≠ 16 * count) ∨
      (∃ (c : CtxId) (addr : Addr) (length : Nat), i = .inlineListReadEnd c (.data bytes) ∧
        (s.ctx c).reading = some (.inlineList addr length) ∧ bytes.length ≠ length) ∨
      ∃ (c : CtxId) (addr : Addr) (length : Nat), i = .stagingReadEnd c (.data bytes) ∧
        (s.ctx c).reading = some (.staging addr length) ∧ bytes.length ≠ length)

/-! ### Laws of the device -/

/-- Every step keeps the notice queue free of two notices for one subject (R192). -/
def Obligations.StepKeepsNoticesDistinct : Prop :=
  ∀ s t : State, NoticesDistinct s → step s = .next t → NoticesDistinct t

/-- Every step keeps the attention table free of two entries with one key, and within 64 entries (R165). -/
def Obligations.StepKeepsAttentionDistinct : Prop :=
  ∀ s t : State, AttentionDistinct s → step s = .next t → AttentionDistinct t

/-- Every step keeps the lists of the list store within its 2048 step slots (R99). -/
def Obligations.StepKeepsListStoreWithinSlots : Prop :=
  ∀ s t : State, StoreFits s → step s = .next t → StoreFits t

/-- Every step keeps the indices of every ring below its size: the submission rings' (R124, R126) and the completion, event and
capture rings'; it writes a record only to a ring that is not full (R124), and keeps the fetch arbiter's pointer on one of
rings 1-7 (R127). -/
def Obligations.StepKeepsRingsWithinSize : Prop :=
  ∀ s t : State, RingsFit s → step s = .next t → RingsFit t

/-- The state after reset obeys the four laws. -/
def Obligations.ResetObeysDeviceLaws : Prop :=
  NoticesDistinct State.reset ∧ AttentionDistinct State.reset ∧ StoreFits State.reset ∧ RingsFit State.reset

/-! ### Resets and the register window -/

/-- The state after a reset, block by block and field by field: the register window and the parameters (R140, R142, R146), the
timebase and the MSI-X logic (R135, R180), the rings, the fetch arbiter and the admin unit (R126, R127, R129, R131, R136, R137),
the contexts and the list store (R99, R103), the window and the deferral table (R41, R65, R66), the loop and the nodes (R3, R16,
R25), the query-refused flags (R168), the attention unit, the slots and the notice queue (R165, R172, R181, R192), and what the
window reads while READY is clear (R142, R202). The model's own fields are empty: the messages (assumption 23), the hand-over
list (assumption 28) and the queue of commands (assumption 6); a name that stands for a field that is 0 or absent is assumption
30. -/
def Obligations.ResetStateValues : Prop :=
  let s := State.reset
  let moderation : Moderation := { count := 0, time := 0, unsignalled := 0, timer := none }
  s.regs = { ready := false, enable := false, fatal := false, eventFault := false, configError := false, adminSqBase := 0,
             adminSqSize := 0, adminCqBase := 0, adminCqSize := 0 } ∧
  s.params = { returnTimeout := 500, crcLimit := 3, busyLimit := 16, busyBackoff := 100, silence := 3,
               deferDeadline := 200, retrain := 250 } ∧
  s.timebase = 0 ∧ s.host = { pendingFlags := 0, maskedFlags := 0xFFFF, messages := [] } ∧
  (∀ r, s.subRing r = { state := .absent, base := 0, size := 0, cq := 0, weight := 0, producer := 0, consumer := 0,
                        jobsHeld := 0 }) ∧
  (∀ k, s.compRing k = { state := .absent, base := 0, size := 0, producer := 0, consumer := 0, phase := false, vector := 0,
                         moderation, queue := [], writing := none }) ∧
  s.rings.event = { state := .absent, base := 0, size := 0, producer := 0, consumer := 0, phase := false, vector := 0,
                    moderation, writing := none } ∧
  (∀ k, s.captureRing k = { base := 0, size := 0, producer := 0, consumer := 0, phase := false, writing := none }) ∧
  (∀ r, vget s.rings.credits r = 0) ∧ s.rings.pointer = 1 ∧ s.rings.fetch = none ∧
  s.admin = { fetching := none, job := none } ∧
  (∀ c, s.ctx c =
    { state := .free, sq := 0, cq := 0, jobId := 0, list := .none, stepCount := 0, index := 0, remaining := 0, tries := 0,
      pause := none, inAddr := 0, inLen := 0, outAddr := 0, outLen := 0, inCursor := 0, outCursor := 0, staging := [],
      allowDefer := false, admitted := 0, deadline := none, pending := none, stepsDone := 0, continued := 0,
      firstContinued := none, stopStep := none, stopCause := none, runOwner := none, words := [], deferredOp := none,
      reading := none, inWrite := none, record := none }) ∧
  s.handOver = [] ∧ (∀ i, s.stored i = .empty) ∧ freeSlots s.lists = 2048 ∧
  (∀ t, s.tag t = none) ∧ s.window.claimsS = [] ∧ s.window.claimsI = [] ∧ s.window.claimsJ = [] ∧ s.window.backoff = [] ∧
  s.window.turn = .classI ∧ (∀ n t, s.doubtful n t = false) ∧ (∀ d, s.entry d = .free) ∧ (∀ n, s.heldOver n = 0) ∧
  s.loop = { state := .off, rate := .r1, transit := [], lost := 0, trainingTimer := none, retrainTimer := none,
             rateSwitched := false, sending := none, waiting := [], agreed := none } ∧
  (∀ n, s.node n = { state := .absent, identity := none, seq := 0, untouched := 0, applied := 0xFF, dirty := false,
                     outstanding := 0 }) ∧
  s.nodes.census = none ∧ s.queryRefused = 0 ∧ s.attention = { table := [], queue := [] } ∧
  (∀ k, s.slot k = { state := .idle, list := 0, period := 0, nextDue := 0, policy := .skip, vector := 0, snapshotSize := 0,
                     sequence := 0, missed := 0, run := none, stopWaiting := false }) ∧
  s.notices = [] ∧ s.pending = [] ∧
  readRegister s 0 = 0x00010430 ∧ readRegister s 4 = 2 ∧ ∀ offset, offset ≠ 0 → offset ≠ 4 → readRegister s offset = 0

/-- POWER_ON and PCIE_RESET give every block its reset value; FUNCTION_RESET does so too, but leaves the MSI-X masked flags
(R135, R142). Until READY is set STATUS reads 0 and FUNCTION RESET reads 1; INITIALISATION_END sets READY and changes nothing
else (R141, R142). -/
def Obligations.ResetsThenInitialisation : Prop :=
  (∀ s : State,
     exec .powerOn s = .next { State.reset with pending := s.pending } ∧
     exec .pcieReset s = .next { State.reset with pending := s.pending } ∧
     exec .functionReset s = .next
       { State.reset with
         pending := s.pending, host := { pendingFlags := 0, maskedFlags := s.host.maskedFlags, messages := [] } }) ∧
  (∀ s : State,
     (s.regs.ready = false → readRegister s 0x08 = 0 ∧ readRegister s 0x04 = 2) ∧
     ∃ t, exec .initialisationEnd s = .next t ∧ t = { s with regs := { s.regs with ready := true } } ∧
       (readRegister t 0x08).getLsbD 0 = true ∧ (readRegister t 0x04).getLsbD 1 = false)

/-- ENABLE written 1 while clear: with ring 0 ABSENT the admin registers decide, and valid ones create the admin rings; with
ring 0 not ABSENT ENABLE is set and the rings keep their records (R140, R126, R131). A set ENABLE, and a part that is not
READY, do not change (R140, R142). ENABLE written 0 clears ENABLE and changes nothing else (R140). -/
def Obligations.EnableWritesFollowAdminRegisters : Prop :=
  ∀ s : State,
    (s.regs.ready = false ∨ s.regs.enable = true → exec .enableSet s = .next s) ∧
    (s.regs.ready = true → s.regs.enable = false →
      ((s.subRing 0).state ≠ .absent →
        exec .enableSet s = .next (react { s with regs := { s.regs with enable := true } })) ∧
      ((s.subRing 0).state = .absent →
        (RingSize s.regs.adminSqSize.toNat ∧ RingSize s.regs.adminCqSize.toNat ∧ s.regs.adminSqBase.toNat % 64 = 0
            ∧ s.regs.adminCqBase.toNat % 32 = 0 →
          exec .enableSet s = .next (react
            ((({ s with regs := { s.regs with enable := true, configError := false } } : State).setSubRing 0
              { state := .active, base := s.regs.adminSqBase, size := s.regs.adminSqSize.toNat }).setCompRing 0
              { state := .active, base := s.regs.adminCqBase, size := s.regs.adminCqSize.toNat, phase := true,
                vector := 0, moderation := { count := 1, time := 0 } }))) ∧
        (¬ (RingSize s.regs.adminSqSize.toNat ∧ RingSize s.regs.adminCqSize.toNat
            ∧ s.regs.adminSqBase.toNat % 64 = 0 ∧ s.regs.adminCqBase.toNat % 32 = 0) →
          exec .enableSet s = .next (react { s with regs := { s.regs with configError := true } })))) ∧
    (s.regs.ready = true → exec .enableCleared s = .next { s with regs := { s.regs with enable := false } }) ∧
    (s.regs.ready = false → exec .enableCleared s = .next s)

/-- A write to an admin register is taken exactly while the part is READY, ENABLE is clear and submission ring 0 is ABSENT: it
reads back, and every other register reads as before (R140, R202). A write by offset is its register's own write: CONTROL with
FUNCTION RESET set is a function reset whatever its ENABLE bit, and IDENT, STATUS, index slots 25-31 and every offset not in
the table, the ones between two registers included, ignore it (R139, R142, R202). -/
def Obligations.RegisterWritesReachRegisters : Prop :=
  (∀ (reg : AdminRegister) (value : Word) (s : State),
     (s.regs.ready = true ∧ s.regs.enable = false ∧ (s.subRing 0).state = .absent →
       ∃ t, exec (.adminRegisterWrite reg value) s = .next t ∧ t = { s with regs := t.regs } ∧
         readRegister t (adminOffset reg) = value ∧
         ∀ o, o ≠ adminOffset reg → readRegister t o = readRegister s o) ∧
     (¬ (s.regs.ready = true ∧ s.regs.enable = false ∧ (s.subRing 0).state = .absent) →
       exec (.adminRegisterWrite reg value) s = .next s)) ∧
  (∀ (value : Word) (s : State),
     (∀ r : RingId, exec (.registerWrite (BitVec.ofNat 8 (0x40 + 4 * r.val)) value) s
       = exec (.producerIndexWrite r value) s) ∧
     (∀ k : RingId, exec (.registerWrite (BitVec.ofNat 8 (0x60 + 4 * k.val)) value) s
       = exec (.completionConsumerIndexWrite k value) s) ∧
     exec (.registerWrite 0x80 value) s = exec (.eventConsumerIndexWrite value) s ∧
     (∀ k : SlotId, exec (.registerWrite (BitVec.ofNat 8 (0x84 + 4 * k.val)) value) s
       = exec (.captureConsumerIndexWrite k value) s) ∧
     (value.getLsbD 1 = true → exec (.registerWrite 0x04 value) s = .next { State.reset with
         pending := s.pending, host := { pendingFlags := 0, maskedFlags := s.host.maskedFlags, messages := [] } }) ∧
     (value.getLsbD 1 = false → value.getLsbD 0 = true → exec (.registerWrite 0x04 value) s = exec .enableSet s) ∧
     (value.getLsbD 1 = false → value.getLsbD 0 = false → exec (.registerWrite 0x04 value) s = exec .enableCleared s) ∧
     (∀ reg : AdminRegister, exec (.registerWrite (BitVec.ofNat 8 (adminOffset reg)) value) s
       = exec (.adminRegisterWrite reg value) s) ∧
     (∀ o : BitVec 8, o.toNat ∉ [0x04, 0x10, 0x14, 0x18, 0x20, 0x24, 0x28] →
       o.toNat < 0x40 ∨ 0xA4 ≤ o.toNat ∨ o.toNat % 4 ≠ 0 → exec (.registerWrite o value) s = .next s))

/-- A part that is not READY ignores every index write (R142). A producer index write on an ACTIVE ring becomes the producer
index when it is below the size, and otherwise faults the ring with a ring notice whose address is absent; ABSENT, DRAINING and
FAULTED rings ignore it (R126). Consumer index writes are accepted when below the size and not past the producer index, on an
ACTIVE completion or event ring and on the capture ring of a slot that is not IDLE; an accepted write that empties the ring
clears its moderation; any other write is ignored (R132, R134, R136, R137). -/
def Obligations.IndexWritesByRingState : Prop :=
  (∀ (value : Word) (s : State), s.regs.ready = false →
     (∀ r, exec (.producerIndexWrite r value) s = .next s) ∧
     (∀ k, exec (.completionConsumerIndexWrite k value) s = .next s) ∧
     exec (.eventConsumerIndexWrite value) s = .next s ∧
     ∀ k, exec (.captureConsumerIndexWrite k value) s = .next s) ∧
  ∀ (value : Word) (s : State), s.regs.ready = true →
    (∀ r : RingId, let x := s.subRing r
      (x.state = .active → value.toNat < x.size →
        exec (.producerIndexWrite r value) s = .next (react (s.setSubRing r { x with producer := value.toNat }))) ∧
      (x.state = .active → x.size ≤ value.toNat →
        exec (.producerIndexWrite r value) s
          = .next (react (notify (.subRing r) (.ring none) (s.setSubRing r { x with state := .faulted })))) ∧
      (x.state ≠ .active → exec (.producerIndexWrite r value) s = .next (react s))) ∧
    (∀ k : RingId, let r := s.compRing k
      (r.state = .active ∧ TakesRecords r.producer r.consumer r.size value.toNat →
        exec (.completionConsumerIndexWrite k value) s = .next (react (s.setCompRing k
          { r with
            consumer := value.toNat
            moderation := if r.producer = value.toNat then { r.moderation with unsignalled := 0, timer := none }
                          else r.moderation }))) ∧
      (¬ (r.state = .active ∧ TakesRecords r.producer r.consumer r.size value.toNat) →
        exec (.completionConsumerIndexWrite k value) s = .next (react s))) ∧
    (let r := s.rings.event;
      (r.state = .active ∧ TakesRecords r.producer r.consumer r.size value.toNat →
        exec (.eventConsumerIndexWrite value) s = .next (react (s.setEventRing
          { r with
            consumer := value.toNat
            moderation := if r.producer = value.toNat then { r.moderation with unsignalled := 0, timer := none }
                          else r.moderation }))) ∧
      (¬ (r.state = .active ∧ TakesRecords r.producer r.consumer r.size value.toNat) →
        exec (.eventConsumerIndexWrite value) s = .next (react s))) ∧
    (∀ k : SlotId, let r := s.captureRing k
      ((s.slot k).state ≠ .idle ∧ TakesRecords r.producer r.consumer r.size value.toNat →
        exec (.captureConsumerIndexWrite k value) s
          = .next (s.setCaptureRing k { r with consumer := value.toNat })) ∧
      (¬ ((s.slot k).state ≠ .idle ∧ TakesRecords r.producer r.consumer r.size value.toNat) →
        exec (.captureConsumerIndexWrite k value) s = .next s))

/-- A message on a masked vector sets its pending flag and nothing goes out; on an unmasked vector one message goes out (R135).
A vector masked: its flag is set. A vector unmasked: one message goes out and the pending flag clears if it was set, and no
other vector's flags change (R135). A moderation timer's expiry sends one message when records are unsignalled, and leaves the
count 0 and the timer stopped (R134). The list of the messages sent is the model's own record (assumption 23), and that the
expiry brings the timebase to the timer's instant is the model's choice (assumptions 2 and 34). -/
def Obligations.MessagesByMaskAndModeration : Prop :=
  (∀ (v : Vec) (s : State),
     (s.host.maskedFlags.getLsbD v.val = true → ∃ h : HostPort, sendMessage v s = { s with host := h } ∧
       h.messages = s.host.messages ∧ h.maskedFlags = s.host.maskedFlags ∧
       ∀ w : Vec, h.pendingFlags.getLsbD w.val = (s.host.pendingFlags.getLsbD w.val || w == v)) ∧
     (s.host.maskedFlags.getLsbD v.val = false →
       sendMessage v s = { s with host := { s.host with messages := s.host.messages ++ [v] } })) ∧
  (∀ (v : Vec) (s : State),
     (∃ t, exec (.msixVectorMaskWrite v true) s = .next t ∧ t = { s with host := t.host } ∧
       t.host.messages = s.host.messages ∧ t.host.pendingFlags = s.host.pendingFlags ∧
       ∀ w : Vec, t.host.maskedFlags.getLsbD w.val = (s.host.maskedFlags.getLsbD w.val || w == v)) ∧
     ∃ t, exec (.msixVectorMaskWrite v false) s = .next t ∧ t = { s with host := t.host } ∧
       t.host.messages = (if s.host.pendingFlags.getLsbD v.val then s.host.messages ++ [v] else s.host.messages) ∧
       (∀ w : Vec, t.host.pendingFlags.getLsbD w.val = (s.host.pendingFlags.getLsbD w.val && !(w == v))) ∧
       ∀ w : Vec, t.host.maskedFlags.getLsbD w.val = (s.host.maskedFlags.getLsbD w.val && !(w == v))) ∧
  (∀ (due : Instant) (s : State), let v := reachInstant due s
     (∀ k : RingId, let r := s.compRing k
       r.moderation.timer = some due →
       exec (.moderationTimerExpiry (.completion k)) s = .next
         ((if 0 < r.moderation.unsignalled then sendMessage r.vector v else v).setCompRing k
           { r with moderation := { r.moderation with unsignalled := 0, timer := none } })) ∧
     (let r := s.rings.event;
       r.moderation.timer = some due →
       exec (.moderationTimerExpiry .event) s = .next
         ((if 0 < r.moderation.unsignalled then sendMessage r.vector v else v).setEventRing
           { r with moderation := { r.moderation with unsignalled := 0, timer := none } })))

/-! ### Fetches -/

/-- A fetched entry of a ring that is not DRAINING goes to the lowest-numbered FREE ring context, with the fields it carries at
their offsets: one whose own fields fail a check completes MALFORMED, an INLINE one waits for its list read, a STORED one
completes LIST_MISSING, or LOOP_DOWN at step 0, or runs its list with one more reference. The ring's consumer index and jobs
held rise (R102, R106 to R109, R128, R197). -/
def Obligations.FetchedEntryIsAdmitted : Prop :=
  ∀ (read : FetchRead) (c : CtxId) (bytes : List Byte) (s : State), let r := read.ring
    s.rings.fetch = some read → bytes.length = 64 → (s.subRing r).state ≠ .draining → c.val < 12 →
    (s.ctx c).state = .free → (∀ d : CtxId, d.val < c.val → (s.ctx d).state ≠ .free) →
    let field := littleEndian bytes
    let x : Context :=
      { state := .admitting, sq := r, cq := (s.subRing r).cq, jobId := BitVec.ofNat 16 (field 0 2),
        inAddr := BitVec.ofNat 64 (field 16 8), inLen := field 24 4, outLen := field 28 4,
        outAddr := BitVec.ofNat 64 (field 32 8), allowDefer := field 3 1 == 1, admitted := s.timebase,
        deadline := if field 40 2 = 0 then none else some (s.timebase + 1000 * field 40 2) }
    let q := s.subRing r
    let v := (s.setRings { s.rings with fetch := none }).setSubRing r
      { q with consumer := if q.consumer + 1 = q.size then 0 else q.consumer + 1, jobsHeld := q.jobsHeld + 1 }
    (¬ EntryPasses bytes →
      exec (.fetchReadEnd (.data bytes)) s = .next (react (enterCompleting c .malformed (v.setCtx c x)))) ∧
    (EntryPasses bytes → field 2 1 = 1 →
      exec (.fetchReadEnd (.data bytes)) s = .next (react (v.setCtx c
        { x with
          stepCount := field 4 2
          reading := some (.inlineList (BitVec.ofNat 64 (field 8 8)) (16 * field 4 2)) }))) ∧
    ∀ l : ListId, EntryPasses bytes → field 2 1 = 2 → l.val = field 6 1 →
      ((∀ steps words out refs, s.stored l ≠ .loaded steps words out refs) →
        exec (.fetchReadEnd (.data bytes)) s = .next (react (enterCompleting c .listMissing (v.setCtx c x)))) ∧
      ∀ steps words out refs, s.stored l = .loaded steps words out refs →
        let w := v.setStored l (.loaded steps words out (refs + 1))
        let y := { x with list := .stored l, stepCount := steps.length }
        (s.loop.state = .running → exec (.fetchReadEnd (.data bytes)) s
          = .next (react (runList c (w.setCtx c { y with state := .ready })))) ∧
        (s.loop.state ≠ .running → exec (.fetchReadEnd (.data bytes)) s = .next (react
          (enterCompleting c .loopDown (w.setCtx c { y with stopStep := some 0, stopCause := some .loopDown }))))

/-- The arbiter's fetch read of a DRAINING ring drops its entry: only the consumer index moves (R128). The admin unit reads the
64 bytes at submission ring 0's consumer index when the ring is ACTIVE and not empty, ENABLE is set, the part is not FATAL and
no command is in progress (R124, R129); the read's end puts the command in progress with its code, tag and parameters, and a
code that names no command ends it MALFORMED at once (R143, R197). A read that ends with an error makes its ring FAULTED with
its notice (R128, R129), a DRAINING one too (MODEL'S CHOICE, assumption 10). Without a read in progress nothing happens (MODEL'S
CHOICE, assumption 7). That an entry's address is taken modulo 2^64 is the model's choice (assumption 35). -/
def Obligations.FetchReadsEnd : Prop :=
  (∀ (e : ReadEnd) (s : State), (s.rings.fetch = none → exec (.fetchReadEnd e) s = .next s) ∧
     (s.admin.fetching = none → exec (.adminFetchReadEnd e) s = .next s)) ∧
  (∀ (read : FetchRead) (s : State), s.rings.fetch = some read →
     let r := read.ring
     let q := s.subRing r
     (∀ bytes : List Byte, bytes.length = 64 → q.state = .draining →
       exec (.fetchReadEnd (.data bytes)) s = .next (react ((s.setRings { s.rings with fetch := none }).setSubRing r
         { q with consumer := if q.consumer + 1 = q.size then 0 else q.consumer + 1 }))) ∧
     ∀ addr : Addr, exec (.fetchReadEnd (.error addr)) s = .next (react (notify (.subRing r) (.ring (some addr))
       ((s.setRings { s.rings with fetch := none }).setSubRing r { q with state := .faulted })))) ∧
  (∀ s : State, let q := s.subRing 0
     let may := q.state = .active ∧ q.producer ≠ q.consumer ∧ s.regs.enable = true ∧ s.regs.fatal = false ∧
       s.admin.fetching = none ∧ s.admin.job = none
     (may → settleAdminFetch s = some (s.setAdmin
       { s.admin with fetching := some (q.base + BitVec.ofNat 64 (64 * q.consumer)) })) ∧
     (¬ may → settleAdminFetch s = none)) ∧
  ∀ (a : Addr) (s : State), s.admin.fetching = some a → let q := s.subRing 0
    (∀ bytes : List Byte, bytes.length = 64 →
      let j : AdminJob :=
        { code := bytes.getD 2 0, tag := BitVec.ofNat 16 (littleEndian bytes 0 2), command := adminCommandAt bytes,
          stage := .dispatched }
      let u := (s.setSubRing 0
        { q with consumer := if q.consumer + 1 = q.size then 0 else q.consumer + 1 }).setAdmin
          { fetching := none, job := some j }
      (1 ≤ littleEndian bytes 2 1 → littleEndian bytes 2 1 ≤ 0x16 →
        exec (.adminFetchReadEnd (.data bytes)) s = .next (react u)) ∧
      (littleEndian bytes 2 1 = 0 ∨ 0x16 < littleEndian bytes 2 1 →
        exec (.adminFetchReadEnd (.data bytes)) s = .next (react (endAdmin .malformed none u)))) ∧
    ∀ addr : Addr, exec (.adminFetchReadEnd (.error addr)) s = .next (react (notify (.subRing 0) (.ring (some addr))
      ((s.setAdmin { s.admin with fetching := none }).setSubRing 0 { q with state := .faulted })))

/-! ### Administrative commands -/

/-- A command's end: one record with its tag, code, outcome, detail and timestamp joins completion ring 0's posting queue;
when that ring is not ACTIVE the record is dropped and no command is in progress (R131, R133, R143). -/
def Obligations.CommandEndsWithOneRecord : Prop :=
  ∀ (o : AdminOutcome) (d : Option Nat) (j : AdminJob) (s : State), s.admin.job = some j →
    ((s.compRing 0).state = .active → endAdmin o d s =
      (s.setAdmin { s.admin with job := some { j with stage := .posting } }).setCompRing 0
        { s.compRing 0 with
          queue := (s.compRing 0).queue ++
            [.admin { tag := j.tag, code := j.code, outcome := o, detail := d,
                      endTime := BitVec.ofNat 32 s.timebase }] }) ∧
    ((s.compRing 0).state ≠ .active → endAdmin o d s = s.setAdmin { s.admin with job := none })

/-- IDENTIFY and NODE TABLE READ with an aligned buffer wait for the write of 128 and 960 bytes; another address is refused; the
write's end ends the command (R145, R156), a NODE TABLE READ's with the number of node records in PRESENT as its detail (R156).
The bytes are those of R200, every byte that it does not assign 0 (R196): of the identity block the IDENT value, the supported
rate codes, the capacities, the loop's state and rate, the free slot count and the parameters; of the node table the 30 records
of 32 bytes in address order, an absent identity's bytes 0 (R156, R196, R200). A number stands modulo the width of its field,
which it exceeds only in states that no run reaches. That the 30 records are those of the command's instant is the model's
choice (assumption 12: R156 copies each at its own copy). -/
def Obligations.BufferCommandsWriteThenEnd : Prop :=
  (∀ (buffer : Addr) (s : State),
     (dispatched s = some (.identify buffer) →
       (buffer.toNat % 4 = 0 → exec .identify s = .next (react
         (waitAdmin (.bufferWrite { addr := buffer, bytes := identityBytes s } none) s))) ∧
       (buffer.toNat % 4 ≠ 0 → exec .identify s = .next (react (endAdmin .malformed none s)))) ∧
     (dispatched s = some (.nodeTableRead buffer) →
       (buffer.toNat % 4 = 0 → exec .nodeTableRead s = .next (react
         (waitAdmin (.bufferWrite { addr := buffer, bytes := nodeTableBytes s.nodes.records } (some (presentCount s)))
           s))) ∧
       (buffer.toNat % 4 ≠ 0 → exec .nodeTableRead s = .next (react (endAdmin .malformed none s)))) ∧
     ∀ (w : HostWrite) (d : Option Nat), adminWait s = some (.bufferWrite w d) →
       exec (.adminBufferWriteEnd .ok) s = .next (react (endAdmin .ok d s)) ∧
       ∀ a : Addr, exec (.adminBufferWriteEnd (.error a)) s = .next (react (endAdmin .bufferFault none s))) ∧
  ∀ s : State,
    presentCount s = ((List.finRange 30).filter fun n : NodeId => decide ((s.node n).state = .present)).length ∧
    (let field := littleEndian (identityBytes s)
     (identityBytes s).length = 128 ∧ field 0 4 = 0x00010430 ∧ field 4 1 = 0x0E ∧ field 5 1 = 30 ∧ field 6 1 = 8 ∧
     field 7 1 = 16 ∧ field 8 1 = 12 ∧ field 9 1 = 4 ∧ field 10 1 = 64 ∧ field 11 1 = 0 ∧ field 12 2 = 2048 ∧
     field 14 2 = 256 ∧ field 16 1 = 64 ∧ field 17 1 = 8 ∧ field 18 1 = 8 ∧ field 19 1 = 8 ∧
     field 20 1 = s.loop.state.code ∧ field 21 1 = s.loop.rate.code ∧ field 22 2 = freeSlots s.lists ∧
     field 24 2 = s.params.returnTimeout % 65536 ∧ field 26 1 = s.params.crcLimit % 256 ∧
     field 27 1 = s.params.busyLimit % 256 ∧ field 28 2 = s.params.busyBackoff % 65536 ∧
     field 30 1 = s.params.silence % 256 ∧ field 31 1 = 0 ∧ field 32 2 = s.params.deferDeadline % 65536 ∧
     field 34 2 = s.params.retrain % 65536 ∧ field 36 92 = 0) ∧
    (nodeTableBytes s.nodes.records).length = 960 ∧
    ∀ n : NodeId, let r := s.node n
      let field (i : Nat) : Nat → Nat := littleEndian (nodeTableBytes s.nodes.records) (32 * n.val + i)
      field 0 1 = n.val + 1 ∧ field 1 1 = r.state.code ∧ field 2 1 = r.identity.isSome.toNat ∧
      field 3 1 = (r.identity.map Identity.points).getD 0 % 256 ∧
      field 4 2 = ((r.identity.map Identity.kind).getD 0).toNat ∧
      field 6 1 = ((r.identity.map Identity.rates).getD 0).toNat ∧
      field 7 1 = (r.identity.map Identity.sources).getD 0 % 256 ∧
      field 8 4 = ((r.identity.map Identity.serial).getD 0).toNat ∧ field 12 1 = r.seq.toNat ∧
      field 13 1 = r.untouched % 256 ∧ field 14 1 = r.applied.toNat ∧ field 15 1 = r.dirty.toNat ∧
      field 16 1 = r.outstanding % 256 ∧ field 17 15 = 0

/-- SET PARAMETERS: the first selected value out of its range is refused MALFORMED with its number; then, unless the loop is
OFF, the lowest selected of parameters 1-5 is refused BAD_STATE with its number; otherwise every selected parameter takes its
value and the others keep theirs (R146). That nothing else changes then, a node record whose untouched count a lowered silence
threshold has reached or passed and the node notices among it, is the model's choice (assumption 32): no rule says it. -/
def Obligations.SetParametersChecksThenSets : Prop :=
  ∀ (sel : Byte) (vals : Params) (s : State), dispatched s = some (.setParameters sel vals) →
    (∀ p, 1 ≤ p → p ≤ 7 → sel.getLsbD p = true → ¬ ParamAllowed p (vals.value p) →
      (∀ q, 1 ≤ q → q < p → sel.getLsbD q = true → ParamAllowed q (vals.value q)) →
      exec .setParameters s = .next (react (endAdmin .malformed (some p) s))) ∧
    ((∀ p, 1 ≤ p → p ≤ 7 → sel.getLsbD p = true → ParamAllowed p (vals.value p)) →
      (s.loop.state ≠ .off → ∀ p, 1 ≤ p → p ≤ 5 → sel.getLsbD p = true → (∀ q, 1 ≤ q → q < p → sel.getLsbD q = false) →
        exec .setParameters s = .next (react (endAdmin .badState (some p) s))) ∧
      ((s.loop.state = .off ∨ ∀ p, 1 ≤ p → p ≤ 5 → sel.getLsbD p = false) →
        ∃ new : Params, exec .setParameters s = .next (react (endAdmin .ok none (s.setParams new))) ∧
          ∀ p, 1 ≤ p → p ≤ 7 → new.value p = if sel.getLsbD p then vals.value p else s.params.value p))

/-- CREATE SQ: its checks in order, and the ring it creates (R126, R147). DELETE CQ: its checks in order, with the number of
submission rings that name the ring; removed, every field is 0 (R150). -/
def Obligations.RingNamesHoldCompletionRings : Prop :=
  (∀ (ring cq weight size : Nat) (base : Addr) (s : State), dispatched s = some (.createSq ring cq weight size base) →
     (¬ (1 ≤ ring ∧ ring ≤ 7 ∧ RingSize size ∧ base.toNat % 64 = 0 ∧ cq ≤ 7 ∧ 1 ≤ weight ∧ weight ≤ 15) →
       exec .createSq s = .next (react (endAdmin .malformed none s))) ∧
     ∀ r q : RingId, r.val = ring → q.val = cq →
       1 ≤ ring ∧ RingSize size ∧ base.toNat % 64 = 0 ∧ 1 ≤ weight ∧ weight ≤ 15 →
       ((s.subRing r).state ≠ .absent → exec .createSq s = .next (react (endAdmin .inUse none s))) ∧
       ((s.subRing r).state = .absent →
         ((s.compRing q).state = .absent → exec .createSq s = .next (react (endAdmin .notFound none s))) ∧
         ((s.compRing q).state = .faulted → exec .createSq s = .next (react (endAdmin .badState none s))) ∧
         ((s.compRing q).state = .active → exec .createSq s = .next (react (endAdmin .ok none (s.setSubRing r
           { state := .active, base, size, cq := q, weight, producer := 0, consumer := 0, jobsHeld := 0 })))))) ∧
  (∀ (ring : Nat) (s : State), dispatched s = some (.deleteCq ring) →
     (¬ (1 ≤ ring ∧ ring ≤ 7) → exec .deleteCq s = .next (react (endAdmin .malformed none s))) ∧
     ∀ k : RingId, 1 ≤ ring → k.val = ring →
       ((s.compRing k).state = .absent → exec .deleteCq s = .next (react (endAdmin .notFound none s))) ∧
       ((s.compRing k).state ≠ .absent →
         let naming := (List.finRange 8).countP fun r : RingId =>
           decide (1 ≤ r.val ∧ (s.subRing r).state ≠ .absent ∧ (s.subRing r).cq = k)
         (naming ≠ 0 → exec .deleteCq s = .next (react (endAdmin .inUse (some naming) s))) ∧
         (naming = 0 → exec .deleteCq s = .next (react (endAdmin .ok none (s.setCompRing k {}))))))

/-- DELETE SQ: its checks in order; accepted, the ring is DRAINING, every job of the ring that can be reached is reached by a
ring deletion, and the command waits with their number (R117, R148). ABORT JOB reaches every job that matches and can be
reached, and ends at once with their number (R117, R164); that its own record joins completion ring 0's posting queue behind
the records of the jobs it sends to COMPLETING is the model's choice (assumption 14). The jobs are reached one after another.
A DRAINING ring of 1-7 that holds no job and of which no fetch read is in progress leaves the table, every field and its
credits 0, and the DELETE SQ that waits for it ends OK with the number it reached (R127, R130, R148); a ring that has become
FAULTED meanwhile does so while its DELETE SQ waits (MODEL'S CHOICE, assumption 10), and of several such rings the
lowest-numbered goes first (MODEL'S CHOICE, assumption 8). -/
def Obligations.RingDeletionAndAbortReachJobs : Prop :=
  ((∀ (ring : Nat) (s : State), dispatched s = some (.deleteSq ring) →
      (¬ (1 ≤ ring ∧ ring ≤ 7) → exec .deleteSq s = .next (react (endAdmin .malformed none s))) ∧
      ∀ r : RingId, 1 ≤ ring → r.val = ring →
        ((s.subRing r).state = .absent → exec .deleteSq s = .next (react (endAdmin .notFound none s))) ∧
        ((s.subRing r).state ≠ .absent → ∃ cs : List CtxId, cs.Nodup ∧
          (∀ c, c ∈ cs ↔ Reachable s c ∧ (s.ctx c).sq = r) ∧
          exec .deleteSq s = .next (react (reachAll cs .ringDeleted
            (waitAdmin (.deleteSq r cs.length) (s.setSubRing r { s.subRing r with state := .draining })))))) ∧
   (∀ (ring jobId : Nat) (s : State), dispatched s = some (.abortJob ring jobId) →
      (¬ (1 ≤ ring ∧ ring ≤ 7) → exec .abortJob s = .next (react (endAdmin .malformed none s))) ∧
      (1 ≤ ring → ring ≤ 7 → ∃ cs : List CtxId, cs.Nodup ∧
        (∀ c, c ∈ cs ↔ Reachable s c ∧ (s.ctx c).sq.val = ring ∧ (s.ctx c).jobId.toNat = jobId) ∧
        (cs = [] → exec .abortJob s = .next (react (endAdmin .notFound (some 0) s))) ∧
        (cs ≠ [] → exec .abortJob s = .next (react (endAdmin .ok (some cs.length) (reachAll cs .aborted s))))))) ∧
  (∀ (cs : List CtxId) (p : Pending) (s : State), reachAll cs p s = cs.foldl (fun v c => reachJob c p v) s) ∧
  ∀ s : State,
    let awaited (r : RingId) : Prop := ∃ n, adminWait s = some (.deleteSq r n)
    let done (r : RingId) : Prop := 1 ≤ r.val ∧
      ((s.subRing r).state = .draining ∨ (s.subRing r).state = .faulted ∧ awaited r) ∧ (s.subRing r).jobsHeld = 0 ∧
      ∀ read, s.rings.fetch = some read → read.ring ≠ r
    ((∀ r, ¬ done r) → settleDrained s = none) ∧
    ∀ r, done r → (∀ q : RingId, q.val < r.val → ¬ done q) →
      let v := s.setRings { s.rings with sub := vset s.rings.sub r {}, credits := vset s.rings.credits r 0 }
      (∀ n, adminWait s = some (.deleteSq r n) → settleDrained s = some (endAdmin .ok (some n) v)) ∧
      (¬ awaited r → settleDrained s = some v)

/-- CREATE CQ: its checks in order, and the ring it creates (R131, R149). SET EVENT RING: refused MALFORMED, or waiting for an
event record write in progress, or setting the ring at once and clearing EVENT FAULT (R136, R151). -/
def Obligations.CreateCqAndSetEventRing : Prop :=
  (∀ (ring vector count size time : Nat) (base : Addr) (s : State),
     dispatched s = some (.createCq ring vector count size time base) →
     (¬ (1 ≤ ring ∧ ring ≤ 7 ∧ RingSize size ∧ base.toNat % 32 = 0 ∧ vector ≤ 15 ∧ 1 ≤ count ∧ count ≤ 255
         ∧ time ≤ 65535) →
       exec .createCq s = .next (react (endAdmin .malformed none s))) ∧
     ∀ (k : RingId) (v : Vec), k.val = ring → v.val = vector →
       1 ≤ ring ∧ RingSize size ∧ base.toNat % 32 = 0 ∧ 1 ≤ count ∧ count ≤ 255 ∧ time ≤ 65535 →
       ((s.compRing k).state ≠ .absent → exec .createCq s = .next (react (endAdmin .inUse none s))) ∧
       ((s.compRing k).state = .absent → exec .createCq s = .next (react (endAdmin .ok none (s.setCompRing k
         { state := .active, base, size, producer := 0, consumer := 0, phase := true, vector := v,
           moderation := { count, time, unsignalled := 0, timer := none }, queue := [], writing := none }))))) ∧
  ∀ (vector count size time : Nat) (base : Addr) (s : State),
    dispatched s = some (.setEventRing vector count size time base) →
    (¬ (RingSize size ∧ base.toNat % 32 = 0 ∧ vector ≤ 15 ∧ 1 ≤ count ∧ count ≤ 255 ∧ time ≤ 65535) →
      exec .setEventRing s = .next (react (endAdmin .malformed none s))) ∧
    ∀ v : Vec, v.val = vector →
      RingSize size ∧ base.toNat % 32 = 0 ∧ 1 ≤ count ∧ count ≤ 255 ∧ time ≤ 65535 →
      (s.rings.event.writing ≠ none →
        exec .setEventRing s = .next (react (waitAdmin (.eventWrite v count size time base) s))) ∧
      (s.rings.event.writing = none → exec .setEventRing s = .next (react (endAdmin .ok none
        ((s.setEventRing
          { state := .active, base, size, producer := 0, consumer := 0, phase := true, vector := v,
            moderation := { count, time, unsignalled := 0, timer := none }, writing := none }).setRegs
          { s.regs with eventFault := false }))))

/-- LOOP START: a start request from OFF and BROKEN, no request in TRAINING and CENSUS, BAD_STATE in RUNNING and STOPPING (R18,
R22, R152); in FATAL it ends LOOP_NOT_RUNNING (MODEL'S CHOICE, assumption 11). LOOP STOP: OK at once in OFF; from TRAINING,
CENSUS, RUNNING and BROKEN a stop request: STOPPING, with the timers stopped, a census abandoned and the claims and backoffs
ended LOOP_DOWN (R23, R32, R63, R153); in STOPPING, which R153 says the command cannot find, it waits (MODEL'S CHOICE,
assumption 33). OFF is entered from STOPPING when every tag is FREE: the transit list is empty and the count 0, with the loop
notice (OFF, stopped); the deferral table and the paused jobs end as BreakEmptiesWindowAndTable gives, and the LOOP STOP that
waits ends OK (R23, R79, R92, R153), its record behind those of the jobs that OFF ends (MODEL'S CHOICE, assumption 14). What
endQueued and abandonCensus do is stated there too. -/
def Obligations.LoopStartAndStopByLoopState : Prop :=
  ((∀ s : State, dispatched s = some .loopStart →
      (s.regs.fatal = true → exec .loopStart s = .next (react (endAdmin .loopNotRunning (some LoopReason.fatal.code) s))) ∧
      (s.regs.fatal = false →
      (s.loop.state = .off ∨ s.loop.state = .broken →
        exec .loopStart s = .next (react (handFrame trainFrame ((waitAdmin .loopStart s).setLoop
          { s.loop with
            state := .training, rate := .r1, lost := 0, trainingTimer := some (s.timebase + 50000), retrainTimer := none,
            rateSwitched := false, agreed := none })))) ∧
      (s.loop.state = .training ∨ s.loop.state = .census → exec .loopStart s = .next (react (waitAdmin .loopStart s))) ∧
      (s.loop.state = .running ∨ s.loop.state = .stopping →
        exec .loopStart s = .next (react (endAdmin .badState (some s.loop.state.code) s))))) ∧
   (∀ s : State, dispatched s = some .loopStop →
      (s.loop.state = .off → exec .loopStop s = .next (react (endAdmin .ok none s))) ∧
      (s.loop.state = .stopping → exec .loopStop s = .next (react (waitAdmin .loopStop s))) ∧
      (s.loop.state ≠ .off → s.loop.state ≠ .stopping →
        exec .loopStop s = .next (react (endQueued (abandonCensus ((waitAdmin .loopStop s).setLoop
          { s.loop with state := .stopping, trainingTimer := none, retrainTimer := none, agreed := none }))))))) ∧
  ∀ s : State,
    let down := jobsLoopDown (tableLoopDown (notify .loop (.loop .off .stopped s.loop.rate) (s.setLoop
      { s.loop with state := .off, sending := none, waiting := [], transit := [], lost := 0 })))
    (s.loop.state ≠ .stopping ∨ (∃ t, s.tag t ≠ none) → settleOff s = none) ∧
    (s.loop.state = .stopping → (∀ t, s.tag t = none) →
      (adminWait down = some .loopStop → settleOff s = some (endAdmin .ok none down)) ∧
      (adminWait down ≠ some .loopStop → settleOff s = some down))

/-- CENSUS: in RUNNING the census begins with claims for addresses 1 and 2 and the command waits; in any other state it is
refused LOOP_NOT_RUNNING (R27, R154). NODE RESET: its checks in order, and the class S claim it makes (R35, R155). -/
def Obligations.CensusAndNodeResetClaim : Prop :=
  (∀ s : State, dispatched s = some .census →
     (s.loop.state = .running → exec .census s = .next (react
       (((waitAdmin .census s).setNodes { s.nodes with census := some { byCommand := true, claimed := 2, ended := 0 } }).setWindow
         { s.window with
           claimsS := s.window.claimsS ++ [{ owner := .census 0, node := 0 }, { owner := .census 1, node := 1 }] }))) ∧
     (s.loop.state ≠ .running →
       exec .census s = .next (react (endAdmin .loopNotRunning (some s.loop.state.code) s)))) ∧
  (∀ (node : Nat) (s : State), dispatched s = some (.nodeReset node) →
     (¬ (1 ≤ node ∧ node ≤ 30) → exec .nodeReset s = .next (react (endAdmin .malformed none s))) ∧
     ∀ n : NodeId, n.val + 1 = node →
       (s.loop.state ≠ .running →
         exec .nodeReset s = .next (react (endAdmin .loopNotRunning (some s.loop.state.code) s))) ∧
       (s.loop.state = .running →
         ((s.node n).state = .absent ∨ (s.node n).state = .incompatible →
           exec .nodeReset s = .next (react (endAdmin .badState (some (s.node n).state.code) s))) ∧
         ((s.node n).state = .present ∨ (s.node n).state = .silent →
           exec .nodeReset s = .next (react ((waitAdmin .nodeReset s).setWindow
             { s.window with claimsS := s.window.claimsS ++ [{ owner := .nodeReset n, node := n }] })))))

/-- LOAD LIST: its checks in order, and LOADING (R99, R100). UNLOAD LIST answers by the id, its state and its reference count
(R101). The free slot count is 2048 less the step counts of the ids that are LOADING or LOADED (R99). -/
def Obligations.LoadAndUnloadByListState : Prop :=
  ((∀ (id count : Nat) (addr : Addr) (s : State), dispatched s = some (.loadList id count addr) →
      (¬ (id ≤ 63 ∧ 1 ≤ count ∧ count ≤ 256) → exec .loadList s = .next (react (endAdmin .malformed none s))) ∧
      ∀ l : ListId, l.val = id → 1 ≤ count → count ≤ 256 →
        (s.stored l ≠ .empty → exec .loadList s = .next (react (endAdmin .inUse none s))) ∧
        (s.stored l = .empty →
          (freeSlots s.lists < count →
            exec .loadList s = .next (react (endAdmin .noSpace (some (freeSlots s.lists)) s))) ∧
          (count ≤ freeSlots s.lists →
            exec .loadList s = .next (react (waitAdmin (.loadList l) (s.setStored l (.loading count))))))) ∧
   (∀ (id : Nat) (s : State), dispatched s = some (.unloadList id) →
      (63 < id → exec .unloadList s = .next (react (endAdmin .malformed none s))) ∧
      ∀ l : ListId, l.val = id →
        (s.stored l = .empty → exec .unloadList s = .next (react (endAdmin .notFound none s))) ∧
        ∀ (steps : List Step) (words : Nat) (usesOut : Bool) (refs : Nat), s.stored l = .loaded steps words usesOut refs →
          (0 < refs → exec .unloadList s = .next (react (endAdmin .inUse (some refs) s))) ∧
          (refs = 0 → exec .unloadList s = .next (react
            (endAdmin .ok (some (freeSlots (s.setStored l .empty).lists)) (s.setStored l .empty)))))) ∧
  ∀ s : State, freeSlots s.lists = 2048 - ((List.finRange 64).map fun l => match s.stored l with
    | .empty => 0
    | .loading count => count
    | .loaded steps _ _ _ => steps.length).sum

/-- The end of a LOAD LIST read: an error or a failing step leaves the id EMPTY, a valid list is LOADED with reference count 0,
its read-word total, which is the sum of the counts of its READ and BLOCK_READ steps, and its out-buffer use, which says
whether some WRITE or BLOCK_WRITE step names OUT_BUFFER as its data source (R97, R98, R100). -/
def Obligations.ListLoadReadEndHoldsList : Prop :=
  ∀ (l : ListId) (count : Nat) (s : State), adminWait s = some (.loadList l) → s.stored l = .loading count →
    (∀ a : Addr, exec (.listLoadReadEnd (.error a)) s
      = .next (react (endAdmin .bufferFault none (s.setStored l .empty)))) ∧
    ∀ bytes : List Byte, bytes.length = 16 * count →
      (∀ i, parseSteps count 0 bytes = .error i → exec (.listLoadReadEnd (.data bytes)) s
        = .next (react (endAdmin .malformed (some i) (s.setStored l .empty)))) ∧
      ∀ steps, parseSteps count 0 bytes = .ok steps →
        let readWords := (steps.map fun p => if p.kind = .read ∨ p.kind = .blockRead then p.count else 0).sum
        let usesOut := steps.any fun p => decide ((p.kind = .write ∨ p.kind = .blockWrite) ∧ p.source = .outBuffer)
        let u := s.setStored l (.loaded steps readWords usesOut 0)
        steps.length = count ∧
        exec (.listLoadReadEnd (.data bytes)) s = .next (react (endAdmin .ok (some (freeSlots u.lists)) u))

/-- Validation of the step records that were read (R97, R200): it answers as many steps as it is asked for, the record at each
index passing every check of R97 and the step there holding that record's fields at their offsets, or the index of the first
record that fails a check, every record before it passing. That a field which the kind ignores, as the limit of a TEST, is not
checked against a range of its own, so that no record fails for it, is the model's choice (assumption 18): R97 lists no such
check, and R83 speaks of one. -/
def Obligations.ValidationNamesFirstFailingStep : Prop :=
  ∀ (count start : Nat) (bytes : List Byte),
    (∀ steps, parseSteps count start bytes = .ok steps → steps.length = count ∧
      ∀ i p, steps[i]? = some p → StepRecordPasses (stepRecord bytes i) ∧ StepReadFrom (stepRecord bytes i) p) ∧
    ∀ i, parseSteps count start bytes = .error i →
      start ≤ i ∧ i < start + count ∧ ¬ StepRecordPasses (stepRecord bytes (i - start)) ∧
      ∀ j, start ≤ j → j < i → StepRecordPasses (stepRecord bytes (j - start))

/-- ATTENTION ADD: its checks in order, and the DISARMED entry it creates (R102, R158). -/
def Obligations.AttentionAddChecksInOrder : Prop :=
  ∀ (node source kind list : Nat) (cookie : Word) (s : State),
    dispatched s = some (.attentionAdd node source kind list cookie) →
    (¬ (1 ≤ node ∧ node ≤ 30 ∧ source ≤ 7 ∧ (kind = 1 ∨ kind = 2) ∧ (list ≤ 63 ∨ list = 0xFF)) →
      exec .attentionAdd s = .next (react (endAdmin .malformed none s))) ∧
    ∀ (n : NodeId) (i : Source) (k : EntryKind), n.val + 1 = node → i.val = source →
      (kind = 1 ∧ k = .single ∨ kind = 2 ∧ k = .repeat) →
      let key : Key := ⟨n, i⟩
      ((list ≤ 63 ∨ list = 0xFF) → (∃ e ∈ s.attention.table, e.key = key) →
        exec .attentionAdd s = .next (react (endAdmin .inUse none s))) ∧
      ((∀ e ∈ s.attention.table, e.key ≠ key) →
        ((list ≤ 63 ∨ list = 0xFF) → 64 ≤ s.attention.table.length →
          exec .attentionAdd s = .next (react (endAdmin .noSpace none s))) ∧
        (s.attention.table.length < 64 →
          (list = 0xFF → exec .attentionAdd s = .next (react
            (endAdmin .ok (some (s.attention.table.length + 1)) (s.setAttention
              { s.attention with
                table := s.attention.table ++ [{ key, kind := k, list := none, cookie, state := .disarmed }] })))) ∧
          ∀ l : ListId, l.val = list →
            ((∀ steps words out refs, s.stored l ≠ .loaded steps words out refs) →
              exec .attentionAdd s = .next (react (endAdmin .notFound none s))) ∧
            ∀ steps words out refs, s.stored l = .loaded steps words out refs →
              (out = true → exec .attentionAdd s = .next (react (endAdmin .malformed none s))) ∧
              (out = false → exec .attentionAdd s = .next (react
                (endAdmin .ok (some (s.attention.table.length + 1))
                  ((s.setStored l (.loaded steps words false (refs + 1))).setAttention
                    { s.attention with
                      table := s.attention.table ++
                        [{ key, kind := k, list := some l, cookie, state := .disarmed }] }))))))

/-- ATTENTION ARM and DISARM by the entry's state: a change between DISARMED and ARMED changes the node's desired mask, whose bit
of the source clears with ARM and sets with DISARM while every other stays, and is reported for the node's mask; the same state
changes nothing, and a busy entry is refused BAD_STATE (R159). The desired mask's bit of a source is set exactly while every
entry of its key is DISARMED, and the report marks the node when the mask differs from the applied one (R167). -/
def Obligations.ArmAndDisarmByEntryState : Prop :=
  (∀ (table : List AttentionEntry) (n : NodeId) (i : Source), (desiredMask table n).getLsbD i.val = true ↔
     ∀ e ∈ table, e.key = ⟨n, i⟩ → e.state = .disarmed) ∧
  (∀ (n : NodeId) (s : State), desiredChanged n s =
     if desiredMask s.attention.table n ≠ (s.node n).applied then s.setNode n { s.node n with dirty := true } else s) ∧
  ∀ (node source : Nat) (s : State) (c : Instr) (target other : EntryState),
    (c = .attentionArm ∧ target = .armed ∧ other = .disarmed ∧ dispatched s = some (.attentionArm node source)) ∨
    (c = .attentionDisarm ∧ target = .disarmed ∧ other = .armed ∧ dispatched s = some (.attentionDisarm node source)) →
    (¬ (1 ≤ node ∧ node ≤ 30 ∧ source ≤ 7) → exec c s = .next (react (endAdmin .malformed none s))) ∧
    ∀ (n : NodeId) (i : Source), n.val + 1 = node → i.val = source →
      ((∀ e ∈ s.attention.table, e.key ≠ ⟨n, i⟩) → exec c s = .next (react (endAdmin .notFound none s))) ∧
      ∀ e, s.attentionEntry ⟨n, i⟩ = some e →
        (e.state = target → exec c s = .next (react (endAdmin .ok none s))) ∧
        (e.state = other → let table := s.attention.table.map fun e => if e.key = ⟨n, i⟩ then { e with state := target } else e
          exec c s = .next (react (endAdmin .ok none
            (desiredChanged n (s.setAttention { s.attention with table })))) ∧
          (desiredMask table n).getLsbD i.val = decide (target = .disarmed) ∧
          ∀ (m : NodeId) (j : Source), ¬ (m = n ∧ j = i) →
            (desiredMask table m).getLsbD j.val = (desiredMask s.attention.table m).getLsbD j.val) ∧
        (e.state ≠ .disarmed → e.state ≠ .armed →
          exec c s = .next (react (endAdmin .badState (some e.state.code) s)))

/-- ATTENTION DELETE: its checks in order; the entry leaves the table, its list's reference is released and, if it was ARMED,
the node's mask is reported; the detail is the number of entries left (R160). A reference released is one user less of a LOADED
list, and nothing else (R102). -/
def Obligations.AttentionDeleteRemovesEntry : Prop :=
  (∀ (l : ListId) (s : State),
     (∀ steps words out refs, s.stored l = .loaded steps words out refs →
       releaseReference l s = s.setStored l (.loaded steps words out (refs - 1))) ∧
     ((∀ steps words out refs, s.stored l ≠ .loaded steps words out refs) → releaseReference l s = s)) ∧
  ∀ (node source : Nat) (s : State), dispatched s = some (.attentionDelete node source) →
    (¬ (1 ≤ node ∧ node ≤ 30 ∧ source ≤ 7) → exec .attentionDelete s = .next (react (endAdmin .malformed none s))) ∧
    ∀ (n : NodeId) (i : Source), n.val + 1 = node → i.val = source →
      (s.attentionEntry ⟨n, i⟩ = none → exec .attentionDelete s = .next (react (endAdmin .notFound none s))) ∧
      ∀ e, s.attentionEntry ⟨n, i⟩ = some e →
        (e.state ≠ .disarmed → e.state ≠ .armed →
          exec .attentionDelete s = .next (react (endAdmin .badState (some e.state.code) s))) ∧
        (e.state = .disarmed ∨ e.state = .armed →
          ∃ u : State, exec .attentionDelete s = .next (react (endAdmin .ok (some u.attention.table.length) u)) ∧
            u.attentionEntry ⟨n, i⟩ = none ∧ u.attention.queue = s.attention.queue ∧
            u.attention.table = s.attention.table.filter (fun x => !(x.key == ⟨n, i⟩)) ∧
            (e.list = none → u.lists = s.lists) ∧
            (∀ l, e.list = some l → u.lists = (releaseReference l s).lists) ∧
            (e.state = .disarmed → u.nodes = s.nodes) ∧
            (e.state = .armed → ∀ m, u.node m =
              if m = n ∧ desiredMask u.attention.table n ≠ (s.node n).applied then { s.node m with dirty := true }
              else s.node m) ∧
            u = { s with attention := u.attention, lists := u.lists, nodes := u.nodes })

/-- SLOT START: its checks in order, and the slot, reference and capture ring it sets (R102, R137, R161, R181). -/
def Obligations.SlotStartSetsSlot : Prop :=
  ∀ (slot list policy vector period offset size : Nat) (base : Addr) (s : State),
    dispatched s = some (.slotStart slot list policy vector period offset size base) →
    (¬ (slot ≤ 7 ∧ list ≤ 63 ∧ 1 ≤ period ∧ period ≤ 600000 ∧ offset ≤ period ∧ 4 ≤ size ∧ size ≤ 1024
        ∧ base.toNat % 32 = 0 ∧ (policy = 1 ∨ policy = 2) ∧ vector ≤ 15) →
      exec .slotStart s = .next (react (endAdmin .malformed none s))) ∧
    ∀ (k : SlotId) (l : ListId) (v : Vec) (p : FullPolicy), k.val = slot → l.val = list → v.val = vector →
      (policy = 1 ∧ p = .skip ∨ policy = 2 ∧ p = .suspend) →
      1 ≤ period ∧ period ≤ 600000 ∧ offset ≤ period ∧ 4 ≤ size ∧ size ≤ 1024 ∧ base.toNat % 32 = 0 →
      ((s.slot k).state ≠ .idle →
        exec .slotStart s = .next (react (endAdmin .badState (some (s.slot k).state.code) s))) ∧
      ((s.slot k).state = .idle →
        ((∀ steps words out refs, s.stored l ≠ .loaded steps words out refs) →
          exec .slotStart s = .next (react (endAdmin .notFound none s))) ∧
        ∀ steps words out refs, s.stored l = .loaded steps words out refs →
          (out = true ∨ 1024 < words → exec .slotStart s = .next (react (endAdmin .malformed (some words) s))) ∧
          (out = false → words ≤ 1024 →
            let bytes := (32 + 4 * words + 31) / 32 * 32
            exec .slotStart s = .next (react (endAdmin .ok (some bytes)
              (((s.setStored l (.loaded steps words out (refs + 1))).setSlot k
                { state := .active, list := l, period, nextDue := s.timebase + 100 * offset, policy := p, vector := v,
                  snapshotSize := bytes, sequence := 0, missed := 0, run := none, stopWaiting := false }).setCaptureRing k
                { base, size, producer := 0, consumer := 0, phase := true, writing := none })))))

/-- SLOT STOP: refused, or waiting for the run in progress with the stop-waiting flag set, or IDLE at once with the missed count
as its detail: the slot and its capture ring 0, the list's reference released (R162, R181, R189). SLOT RESUME of a SUSPENDED slot
makes it ACTIVE and changes no other field; any other slot is refused (R163). -/
def Obligations.SlotStopAndResume : Prop :=
  (∀ (slot : Nat) (s : State), dispatched s = some (.slotStop slot) →
     (7 < slot → exec .slotStop s = .next (react (endAdmin .malformed none s))) ∧
     ∀ k : SlotId, k.val = slot →
       ((s.slot k).state = .idle → exec .slotStop s = .next (react (endAdmin .badState none s))) ∧
       ((s.slot k).state ≠ .idle →
         ((s.slot k).run ≠ none → exec .slotStop s = .next (react
           ((waitAdmin (.slotStop k) s).setSlot k { s.slot k with stopWaiting := true }))) ∧
         ((s.slot k).run = none → exec .slotStop s = .next (react (endAdmin .ok (some (s.slot k).missed)
           (((releaseReference (s.slot k).list (waitAdmin (.slotStop k) s)).setSlot k { state := .idle }).setCaptureRing k
             {})))))) ∧
  ∀ (slot : Nat) (s : State), dispatched s = some (.slotResume slot) →
    (7 < slot → exec .slotResume s = .next (react (endAdmin .malformed none s))) ∧
    ∀ k : SlotId, k.val = slot →
      ((s.slot k).state ≠ .suspended →
        exec .slotResume s = .next (react (endAdmin .badState (some (s.slot k).state.code) s))) ∧
      ((s.slot k).state = .suspended →
        exec .slotResume s = .next (react (endAdmin .ok (some (s.slot k).missed)
          (s.setSlot k { s.slot k with state := .active }))))

/-! ### Jobs -/

/-- What a deadline, an abort or a ring deletion does to a ring job, by its state (R116, R117). A job that goes to COMPLETING
takes the outcome of its pending event, with its stop step at the step index and its stop cause absent; from READY and PAUSED
its claim, or its operation in BACKOFF, is withdrawn, and from DEFERRED its entry is orphaned (R74). A job's entries are
orphaned from deferral id 0 up (a run reaches at most one). -/
def Obligations.ReachedJobActsByState : Prop :=
  (∀ (c : CtxId) (p : Pending) (s : State), let x := s.ctx c
     let reached : Context := { x with pending := some (x.pending.getD p) }
     let others (q : List Operation) : List Operation := q.filter fun o => !decide (o.owner = .context c)
     (x.state = .free ∨ x.state = .completing → reachJob c p s = s) ∧
     (x.state = .admitting ∨ x.state = .aborting → reachJob c p s = s.setCtx c reached) ∧
     (x.state = .issued → x.inWrite ≠ none →
       reachJob c p s = s.setCtx c { reached with state := .aborting }) ∧
     (x.state = .issued → x.inWrite = none → reachJob c p s =
       (s.setCtx c { reached with state := .aborting }).setWindow { s.window with
         tags := s.window.tags.map fun t => t.map fun tr =>
           if tr.operation.owner = .context c then { tr with withdrawn := true } else tr }) ∧
     (x.state = .deferred → x.pending = none → x.stopStep = none → x.stopCause = none →
       let u := orphanOwned c (s.setCtx c reached)
       reachJob c p s = enterCompleting c (pendingOutcome p) (u.setCtx c { reached with stopStep := some x.index })) ∧
     (x.state = .ready ∨ x.state = .paused → x.pending = none → x.stopStep = none → x.stopCause = none →
       reachJob c p s = enterCompleting c (pendingOutcome p)
         ((s.setCtx c { reached with stopStep := some x.index }).setWindow { s.window with
           claimsS := others s.window.claimsS, claimsI := others s.window.claimsI, claimsJ := others s.window.claimsJ,
           backoff := s.window.backoff.filter fun o => !decide (o.1.owner = .context c) }))) ∧
  ∀ (c : CtxId) (s : State), orphanOwned c s =
    (List.finRange 16).foldl (fun (v : State) d => match s.entry d with
      | .waiting owner _ _ _ _ => if owner = c then orphanEntry d v else v
      | _ => v) s

/-- A job's entry to COMPLETING while no older record can be handed over: its deadline stops, a stored list's reference is
released, and its record is built with the fields R121 gives. With no read in progress it is handed over at once: it joins the
tail of an ACTIVE completion ring's posting queue, and is dropped, its context FREE, when the ring is not ACTIVE (R120, R131,
R133). With a read in progress, or behind the record of an older context for the same ring, it is kept in its context and
handed over in its turn (R120; that it is kept apart from the ring's posting queue until then is assumption 28). No other
context changes. -/
def Obligations.CompletingJobPostsItsRecord : Prop :=
  ∀ (c : CtxId) (o : JobOutcome) (s : State), let x := s.ctx c
    let t := enterCompleting c o s
    let r : JobRecord :=
      { jobId := x.jobId, ring := x.sq, outcome := o, stepsDone := x.stepsDone, stopStep := x.stopStep,
        stopCause := x.stopCause, continued := x.continued, firstContinued := x.firstContinued, inBytes := x.inCursor,
        outBytes := x.outCursor, endTime := BitVec.ofNat 32 s.timebase }
    HandOverWaits s → c ∉ s.handOver → c.val < 12 →
    (∀ l, x.list = .stored l → t.lists = (releaseReference l s).lists) ∧ (∀ d, d ≠ c → t.ctx d = s.ctx d) ∧
    (x.reading = none → (∀ d ∈ s.handOver, (s.ctx d).cq ≠ x.cq) → t.handOver = s.handOver ∧
      ((s.compRing x.cq).state = .active →
        (t.compRing x.cq).queue = (s.compRing x.cq).queue ++ [.job c r] ∧ (t.ctx c).state = .completing ∧
        (t.ctx c).deadline = none ∧ (t.ctx c).record = none ∧ (t.subRing x.sq).jobsHeld = (s.subRing x.sq).jobsHeld) ∧
      ((s.compRing x.cq).state ≠ .active →
        t.ctx c = {} ∧ (t.subRing x.sq).jobsHeld = (s.subRing x.sq).jobsHeld - 1 ∧ ∀ k, t.compRing k = s.compRing k)) ∧
    ((x.reading ≠ none ∨ ∃ d ∈ s.handOver, (s.ctx d).cq = x.cq) →
      t.handOver = s.handOver ++ [c] ∧ (t.ctx c).state = .completing ∧ (t.ctx c).deadline = none ∧
      (t.ctx c).record = some r ∧ (t.ctx c).reading = x.reading ∧ (t.ctx c).cq = x.cq ∧ ∀ k, t.compRing k = s.compRing k)

/-- An inline list read ends in an ADMITTING job (R108 to R110): a pending outcome ends the job; an error ends it
BUFFER_FAULT; an invalid step ends it MALFORMED at that step; a valid list runs when the loop is RUNNING and ends LOOP_DOWN at
step 0 otherwise. A staging read ends in a READY job (R61): the words are staged and the operation's claim joins the tail of
its class queue, or, with the loop not RUNNING, the step faults LOOP_DOWN (R46); an error ends the step BUFFER_FAULT. In a job
that has gone to COMPLETING either read's data is discarded, and the records that waited for it are handed over (R120): where
the records of a list of contexts for one ACTIVE ring wait for nothing, they join its posting queue in the order the contexts
entered COMPLETING. -/
def Obligations.ContextReadsEnd : Prop :=
  (∀ (c : CtxId) (addr : Addr) (length : Nat) (s : State), (s.ctx c).reading = some (.inlineList addr length) →
     let x := s.ctx c
     let idle : Context := { x with reading := none }
     (∀ e : ReadEnd, (∀ bytes, e = .data bytes → bytes.length = length) →
       (x.state = .completing →
         exec (.inlineListReadEnd c e) s = .next (react (handOverRecords (s.setCtx c idle)))) ∧
       ∀ p : Pending, x.state = .admitting → x.pending = some p → x.stopStep = none →
         exec (.inlineListReadEnd c e) s = .next (react
           (enterCompleting c (pendingOutcome p) (s.setCtx c { idle with stopStep := some x.index })))) ∧
     (x.state = .admitting → x.pending = none →
       (∀ a : Addr, exec (.inlineListReadEnd c (.error a)) s = .next (react
         (enterCompleting c .bufferFault (s.setCtx c { idle with stopCause := some .bufferFault })))) ∧
       ∀ bytes : List Byte, bytes.length = length →
         (∀ i, parseSteps x.stepCount 0 bytes = .error i →
           exec (.inlineListReadEnd c (.data bytes)) s = .next (react
             (enterCompleting c .malformed (s.setCtx c { idle with stopStep := some i })))) ∧
         ∀ steps, parseSteps x.stepCount 0 bytes = .ok steps →
           (s.loop.state = .running → exec (.inlineListReadEnd c (.data bytes)) s = .next (react
             (runList c (s.setCtx c { idle with list := .inline steps, state := .ready })))) ∧
           (s.loop.state ≠ .running → exec (.inlineListReadEnd c (.data bytes)) s = .next (react
             (enterCompleting c .loopDown (s.setCtx c
               { idle with list := .inline steps, stopStep := some 0, stopCause := some .loopDown })))))) ∧
  (∀ (c : CtxId) (addr : Addr) (length : Nat) (s : State), (s.ctx c).reading = some (.staging addr length) →
     let x := s.ctx c
     let idle : Context := { x with reading := none }
     (x.state = .ready →
       (∀ a : Addr, exec (.stagingReadEnd c (.error a)) s = .next (react
         (endStep c (.fault .bufferFault) (s.setCtx c idle)))) ∧
       ∀ (bytes : List Byte) (p : Step) (n : NodeId), bytes.length = length →
         currentStep s c = some p → p.node = n.val + 1 → p.kind = .write ∨ p.kind = .blockWrite →
         p.source = .outBuffer →
         let staged := s.setCtx c { idle with staging := wordsOf bytes }
         (s.loop.state = .running → exec (.stagingReadEnd c (.data bytes)) s = .next (react (pushClaim
           { owner := .context c, node := n,
             command := some { op := .write, point := p.point, immediate := none,
                               count := if p.kind = .write then p.count else min 16 x.remaining } } staged))) ∧
         (s.loop.state ≠ .running → exec (.stagingReadEnd c (.data bytes)) s
           = .next (react (endStep c (.fault .loopDown) staged)))) ∧
     (∀ e : ReadEnd, (∀ bytes, e = .data bytes → bytes.length = length) → x.state = .completing →
       exec (.stagingReadEnd c e) s = .next (react (handOverRecords (s.setCtx c idle))))) ∧
  ∀ (k : RingId) (rs : List (CtxId × JobRecord)) (s : State), (s.compRing k).state = .active →
    s.handOver = rs.map Prod.fst → (rs.map Prod.fst).Nodup →
    (∀ q ∈ rs, (s.ctx q.1).reading = none ∧ (s.ctx q.1).record = some q.2 ∧ (s.ctx q.1).cq = k) →
    ((handOverRecords s).compRing k).queue = (s.compRing k).queue ++ rs.map (fun q => .job q.1 q.2) ∧
    (handOverRecords s).handOver = [] ∧ ∀ q ∈ rs, ((handOverRecords s).ctx q.1).record = none

/-- An in-buffer write ends: an error ends the step BUFFER_FAULT with the cursor where it was; otherwise the in-cursor
advances by 4 bytes for each delivered word (R60). A READ or a BLOCK_READ that asks for a valid flag the DONE lacked faults
NOT_VALID, with the cursor moved (R86, R90). Any other READ has ended completed. A BLOCK_READ whose chunk fell short ends by
its end-on-short flag; after a full last chunk it has ended completed; after a full chunk with words remaining a job in
ABORTING starts none, and a job that goes on begins the next chunk of at most 16 words: it faults NODE_SILENT or NODE_ABSENT
when the node is not PRESENT, then IN_BUFFER_FULL when the words do not fit, then LOOP_DOWN when the loop is not RUNNING, and
otherwise claims (R46, R85, R90, R91, R118). -/
def Obligations.InBufferWriteEndMovesCursor : Prop :=
  ∀ (c : CtxId) (w : InBufferWrite) (s : State), let x := s.ctx c
    x.inWrite = some w → c.val < 12 →
    (∀ a : Addr, exec (.inBufferWriteEnd c (.error a)) s = .next (react
      (endStep c (.fault .bufferFault) (s.setCtx c { x with inWrite := none })))) ∧
    ∀ p : Step, currentStep s c = some p →
      let moved : Context := { x with inWrite := none, inCursor := x.inCursor + 4 * w.delivered, staging := [] }
      (p.kind = .read ∨ p.kind = .blockRead → p.requireValid = true → w.valid = false →
        exec (.inBufferWriteEnd c .ok) s = .next (react (endStep c (.fault .notValid) (s.setCtx c moved)))) ∧
      (p.requireValid = false ∨ w.valid = true →
        (p.kind = .read → exec (.inBufferWriteEnd c .ok) s = .next (react (endStep c .completed (s.setCtx c moved)))) ∧
        (p.kind = .blockRead →
          (w.delivered < min 16 x.remaining → exec (.inBufferWriteEnd c .ok) s = .next (react
            (endStep c (if p.endOnShort then .completed else .fault .shortBlock) (s.setCtx c moved)))) ∧
          (w.delivered = min 16 x.remaining → x.remaining ≤ 16 →
            exec (.inBufferWriteEnd c .ok) s = .next (react (endStep c .completed (s.setCtx c moved)))) ∧
          (w.delivered = 16 → 16 < x.remaining →
            let next : Context := { moved with remaining := x.remaining - 16 }
            let count := min 16 (x.remaining - 16)
            (x.state = .aborting → exec (.inBufferWriteEnd c .ok) s = .next (react (endPending c (s.setCtx c next)))) ∧
            ∀ n : NodeId, x.state ≠ .aborting → p.node = n.val + 1 →
              let faulted (cause : Cause) : State := endStep c (.fault cause) (s.setCtx c next)
              ((s.node n).state = .silent →
                exec (.inBufferWriteEnd c .ok) s = .next (react (faulted .nodeSilent))) ∧
              ((s.node n).state = .absent ∨ (s.node n).state = .incompatible →
                exec (.inBufferWriteEnd c .ok) s = .next (react (faulted .nodeAbsent))) ∧
              ((s.node n).state = .present →
                (x.inLen - moved.inCursor < 4 * count →
                  exec (.inBufferWriteEnd c .ok) s = .next (react (faulted .inBufferFull))) ∧
                (4 * count ≤ x.inLen - moved.inCursor →
                  (s.loop.state ≠ .running →
                    exec (.inBufferWriteEnd c .ok) s = .next (react (faulted .loopDown))) ∧
                  (s.loop.state = .running → exec (.inBufferWriteEnd c .ok) s = .next (react (pushClaim
                    { owner := .context c, node := n,
                      command := some { op := .read, point := p.point, count, immediate := none } }
                    (s.setCtx c { next with state := .ready })))))))))

/-- The step that ends a ring job's run: the last step completed, or faulted under CONTINUE with a cause CONTINUE applies to,
ends it OK with the step counted; a fault that stops the job ends it by its cause, with the stop step at the step's index (R84,
R94, R95, R112, R115). A job in ABORTING takes the pending outcome whatever the step's ending: at the first step not ended with
its stop cause absent, or at the step that a fault stopped, with its cause (R118). A step completed, or faulted and passed
over, in the middle of a list goes on to the step at the next index, in a run of an internal context too, whose run a fault
that stops it ends (R84, R94, R95, R111, R123). The step that begins: at the end of the list the job ends OK, and a run ends;
with the loop not RUNNING the step faults LOOP_DOWN; a DELAY completes at once with interval 0 and otherwise pauses the job for
it (R92); a step whose node is SILENT faults NODE_SILENT, and ABSENT or INCOMPATIBLE NODE_ABSENT (R26, R85); a ring job's READ
or BLOCK_READ whose next words do not fit its in-buffer faults IN_BUFFER_FULL, and its WRITE or BLOCK_WRITE from the out-buffer
faults OUT_BUFFER_SHORT or begins its staging read (R60, R61, R85, R90, R111); otherwise the step's operation is claimed, with
the words of the step or of its first chunk of at most 16 (R85 to R90), at the tail of the queue of class J for a ring context,
I for an internal one, S for any other owner (R46). That a buffer's address plus its cursor is taken modulo 2^64 is the model's
choice (assumption 35). -/
def Obligations.StepEndingEndsJob : Prop :=
  (∀ (c : CtxId) (p : Step) (s : State), let x := s.ctx c
     c.val < 12 → currentStep s c = some p → x.stopStep = none → x.stopCause = none →
     let always (cause : Cause) : Prop :=
       cause = .inBufferFull ∨ cause = .outBufferShort ∨ cause = .bufferFault ∨ cause = .loopDown
     let completed : Context := { x with staging := [], stepsDone := x.stepsDone + 1, index := x.index + 1 }
     let stopped (cause : Cause) : Context :=
       { x with staging := [], stopStep := some x.index, stopCause := some cause }
     let passed (cause : Cause) : Context :=
       { x with
         staging := [], continued := x.continued + 1, index := x.index + 1
         firstContinued := some (x.firstContinued.getD { step := x.index, cause, node := p.node, point := p.point }) }
     (x.state ≠ .aborting →
       (x.index + 1 = (stepsOf s x).length →
         endStep c .completed s = enterCompleting c .ok (s.setCtx c completed) ∧
         ∀ cause, p.policy = .continue → ¬ always cause →
           endStep c (.fault cause) s = enterCompleting c .ok (s.setCtx c (passed cause))) ∧
       ∀ cause, (p.policy = .stop ∨ always cause) →
         (cause = .loopDown → endStep c (.fault cause) s = enterCompleting c .loopDown (s.setCtx c (stopped cause))) ∧
         (cause = .bufferFault →
           endStep c (.fault cause) s = enterCompleting c .bufferFault (s.setCtx c (stopped cause))) ∧
         (cause ≠ .loopDown → cause ≠ .bufferFault →
           endStep c (.fault cause) s = enterCompleting c .stepFault (s.setCtx c (stopped cause)))) ∧
     (∀ o : Pending, x.state = .aborting → x.pending = some o →
       endStep c .completed s
         = enterCompleting c (pendingOutcome o) (s.setCtx c { completed with stopStep := some (x.index + 1) }) ∧
       ∀ cause,
         (p.policy = .continue → ¬ always cause → endStep c (.fault cause) s
           = enterCompleting c (pendingOutcome o) (s.setCtx c { passed cause with stopStep := some (x.index + 1) })) ∧
         ((p.policy = .stop ∨ always cause) →
           endStep c (.fault cause) s = enterCompleting c (pendingOutcome o) (s.setCtx c (stopped cause))))) ∧
  (∀ (op : Operation) (s : State), let w := s.window
     ((∃ c, op.owner = .context c ∧ c.val < 12) → pushClaim op s = s.setWindow { w with claimsJ := w.claimsJ ++ [op] }) ∧
     ((∃ c, op.owner = .context c ∧ 12 ≤ c.val) → pushClaim op s = s.setWindow { w with claimsI := w.claimsI ++ [op] }) ∧
     ((∀ c, op.owner ≠ .context c) → pushClaim op s = s.setWindow { w with claimsS := w.claimsS ++ [op] })) ∧
  (∀ (c : CtxId) (p : Step) (s : State), let x := s.ctx c
     currentStep s c = some p → x.state ≠ .aborting → x.stopCause = none →
     let completed : Context := { x with staging := [], stepsDone := x.stepsDone + 1, index := x.index + 1 }
     let continued (cause : Cause) : Context :=
       { x with
         staging := [], continued := x.continued + 1, index := x.index + 1
         firstContinued := some (x.firstContinued.getD { step := x.index, cause, node := p.node, point := p.point }) }
     let stopped (cause : Cause) : Context := { x with staging := [], stopStep := some x.index, stopCause := some cause }
     let always (cause : Cause) : Prop :=
       cause = .inBufferFull ∨ cause = .outBufferShort ∨ cause = .bufferFault ∨ cause = .loopDown
     endStep c .completed s = runList c (s.setCtx c completed) ∧
     ∀ cause,
       (p.policy = .continue → ¬ always cause →
         endStep c (.fault cause) s = runList c (s.setCtx c (continued cause))) ∧
       (12 ≤ c.val → p.policy = .stop ∨ always cause →
         endStep c (.fault cause) s = endRun c (s.setCtx c (stopped cause)))) ∧
  ∀ (c : CtxId) (s : State), let x := s.ctx c
    (currentStep s c = none →
      (c.val < 12 → x.stopCause = none → runList c s = enterCompleting c .ok s) ∧
      (12 ≤ c.val → runList c s = endRun c s)) ∧
    ∀ p : Step, currentStep s c = some p → x.staging = [] → x.stopCause = none → (stepsOf s x).length ≤ 256 →
      let started : Context := { x with state := .ready, remaining := p.count, tries := 0, pause := none }
      let v := s.setCtx c started
      (s.loop.state ≠ .running → runList c s = endStep c (.fault .loopDown) v) ∧
      (s.loop.state = .running →
        (p.kind = .delay →
          (p.interval = 0 → runList c s = endStep c .completed v) ∧
          (0 < p.interval → runList c s = s.setCtx c
            { started with state := .paused, pause := some (.delay (s.timebase + 10 * p.interval)) })) ∧
        (p.kind ≠ .delay →
          ((∀ n : NodeId, p.node ≠ n.val + 1) → runList c s = endStep c (.fault .nodeAbsent) v) ∧
          ∀ n : NodeId, p.node = n.val + 1 →
            ((s.node n).state = .silent → runList c s = endStep c (.fault .nodeSilent) v) ∧
            ((s.node n).state = .absent ∨ (s.node n).state = .incompatible →
              runList c s = endStep c (.fault .nodeAbsent) v) ∧
            ((s.node n).state = .present →
              let count := match p.kind with
                | .read | .write => p.count
                | .blockRead | .blockWrite => min 16 p.count
                | .pulse | .test | .await | .delay => 0
              let reads := p.kind = .read ∨ p.kind = .blockRead
              let stages := (p.kind = .write ∨ p.kind = .blockWrite) ∧ p.source = .outBuffer
              (c.val < 12 → reads → x.inLen - x.inCursor < 4 * count →
                runList c s = endStep c (.fault .inBufferFull) v) ∧
              (c.val < 12 → stages →
                (x.outLen - x.outCursor < 4 * count → runList c s = endStep c (.fault .outBufferShort) v) ∧
                (4 * count ≤ x.outLen - x.outCursor → runList c s = s.setCtx c
                  { started with reading := some (.staging (x.outAddr + BitVec.ofNat 64 x.outCursor) (4 * count)) })) ∧
              ((12 ≤ c.val ∨ ¬ stages ∧ (reads → 4 * count ≤ x.inLen - x.inCursor)) → runList c s = pushClaim
                { owner := .context c, node := n
                  command := some
                    { op := match p.kind with
                        | .read | .blockRead => .read
                        | .write | .blockWrite => .write
                        | .pulse => .pulse
                        | .test | .await | .delay => .test
                      point := p.point, count
                      immediate := if p.kind = .write ∧ p.source = .immediate then some p.immediate else none } } v))))

/-- A COMMAND of a context answered DONE, in any loop state: the tag and a reservation are FREE, and the outcome goes to the
context (R53, R68). What a DONE does to its context, by the step's kind. The words of a READ or BLOCK_READ are written to a
ring job's in-buffer first, or kept by an internal run (R60, R62, R112); InBufferWriteEndMovesCursor says how a ring job goes
on then. A READ with no word to write, and an internal run's, completes or faults NOT_VALID; a BLOCK_READ does so too, ends
short, completes, or begins its next chunk (R86, R90, R91). A WRITE moves the out-cursor and completes (R61, R87); a PULSE
completes; a TEST completes or faults NOT_VALID (R88); an AWAIT completes, faults AWAIT_EXPIRED at its limit or pauses for its
interval (R89); a BLOCK_WRITE ends short, completes, or begins its next chunk's staging read (R90, R91). The next chunk faults
NODE_SILENT or NODE_ABSENT when the node is not PRESENT, OUT_BUFFER_SHORT when a staging read's words are not there, and
LOOP_DOWN when the claim finds the loop not RUNNING (R46, R85). A job in ABORTING makes no next try and begins no next chunk:
it ends with its pending outcome (R118). That a buffer's address plus its cursor is taken modulo 2^64 is the model's choice
(assumption 35). -/
def Obligations.CommandDoneByStepKind : Prop :=
  (∀ (bytes : List Byte) (f : Frame) (r : TransitRecord) (t : Tag) (tr : Transaction) (c : CtxId) (s : State),
     ReturnReaches s bytes f r t tr → tr.operation.owner = .context c → f.status = .done →
     ((tr.frame.op = some .read ∨ tr.frame.op = some .write) ∧ f.delivered ≤ tr.frame.count ∨ f.delivered = 0) →
     exec (.frameReturn bytes) s
       = .next (react (deliver c (.done f.valid f.delivered f.data) (reservationReleased s .command f r t tr)))) ∧
  ∀ (c : CtxId) (p : Step) (valid : Bool) (delivered : Nat) (data : List Word) (s : State), let x := s.ctx c
    currentStep s c = some p → (x.state = .issued ∨ x.state = .deferred ∨ x.state = .aborting) →
    let y : Context := { x with deferredOp := none, pause := none }
    let t := deliver c (.done valid delivered data) s
    let wrote : Context := { y with staging := [], outCursor := x.outCursor + 4 * delivered }
    (p.kind = .read ∨ p.kind = .blockRead → c.val < 12 → 0 < delivered → t = s.setCtx c
      { y with
        state := if x.state = .aborting then .aborting else .issued
        inWrite := some
          { write := { addr := x.inAddr + BitVec.ofNat 64 x.inCursor, bytes := bytesOf (data.take delivered) }
            valid, delivered } }) ∧
    (p.kind = .read → c.val < 12 → delivered = 0 → t =
      endStep c (if p.requireValid && !valid then .fault .notValid else .completed) (s.setCtx c { y with staging := [] })) ∧
    (p.kind = .blockRead → c.val < 12 → delivered = 0 → 0 < x.remaining → t = endStep c
      (if p.requireValid && !valid then .fault .notValid else if p.endOnShort then .completed else .fault .shortBlock)
      (s.setCtx c { y with staging := [] })) ∧
    (let kept : Context := { y with
       staging := []
       words := match x.runOwner with
         | some (.attention _) => (x.words ++ data.take delivered).take 4
         | _ => x.words ++ data.take delivered }
     12 ≤ c.val →
     (p.kind = .read ∨ p.kind = .blockRead → p.requireValid = true → valid = false →
       t = endStep c (.fault .notValid) (s.setCtx c kept)) ∧
     (p.requireValid = false ∨ valid = true →
       (p.kind = .read → t = endStep c .completed (s.setCtx c kept)) ∧
       (p.kind = .blockRead →
         (delivered < min 16 x.remaining →
           t = endStep c (if p.endOnShort then .completed else .fault .shortBlock) (s.setCtx c kept)) ∧
         (delivered = min 16 x.remaining → x.remaining ≤ 16 → t = endStep c .completed (s.setCtx c kept)) ∧
         (delivered = 16 → 16 < x.remaining → x.state ≠ .aborting →
           let next : Context := { kept with remaining := x.remaining - 16 }
           ∀ n : NodeId, p.node = n.val + 1 →
             ((s.node n).state = .silent → t = endStep c (.fault .nodeSilent) (s.setCtx c next)) ∧
             ((s.node n).state = .absent ∨ (s.node n).state = .incompatible →
               t = endStep c (.fault .nodeAbsent) (s.setCtx c next)) ∧
             ((s.node n).state = .present →
               (s.loop.state ≠ .running → t = endStep c (.fault .loopDown) (s.setCtx c next)) ∧
               (s.loop.state = .running → t = pushClaim
                 { owner := .context c, node := n,
                   command := some { op := .read, point := p.point, count := min 16 (x.remaining - 16),
                                     immediate := none } }
                 (s.setCtx c { next with state := .ready }))))))) ∧
    (p.kind = .write → p.source = .outBuffer → t = endStep c .completed (s.setCtx c wrote)) ∧
    (p.kind = .write → p.source = .immediate → t = endStep c .completed (s.setCtx c { y with staging := [] })) ∧
    (p.kind = .pulse → t = endStep c .completed (s.setCtx c { y with staging := [] })) ∧
    (p.kind = .test → t =
      endStep c (if p.requireValid && !valid then .fault .notValid else .completed) (s.setCtx c { y with staging := [] })) ∧
    (p.kind = .await →
      (valid = true → t = endStep c .completed (s.setCtx c { y with staging := [] })) ∧
      (valid = false → x.tries + 1 = p.limit → t =
        endStep c (.fault .awaitExpired) (s.setCtx c { y with staging := [] })) ∧
      (valid = false → x.tries + 1 ≠ p.limit →
        let tried : Context := { y with staging := [], tries := x.tries + 1 }
        (x.state ≠ .aborting →
          t = s.setCtx c { tried with state := .paused, pause := some (.await (s.timebase + 10 * p.interval)) }) ∧
        (x.state = .aborting → t = endPending c (s.setCtx c tried)))) ∧
    (p.kind = .blockWrite → p.source = .outBuffer →
      (delivered < min 16 x.remaining →
        t = endStep c (if p.endOnShort then .completed else .fault .shortBlock) (s.setCtx c wrote)) ∧
      (delivered = min 16 x.remaining → x.remaining ≤ 16 → t = endStep c .completed (s.setCtx c wrote)) ∧
      (delivered = 16 → 16 < x.remaining → c.val < 12 →
        let next : Context := { wrote with remaining := x.remaining - 16 }
        let count := min 16 (x.remaining - 16)
        (x.state = .aborting → t = endPending c (s.setCtx c next)) ∧
        ∀ n : NodeId, x.state ≠ .aborting → p.node = n.val + 1 →
          ((s.node n).state = .silent → t = endStep c (.fault .nodeSilent) (s.setCtx c next)) ∧
          ((s.node n).state = .absent ∨ (s.node n).state = .incompatible →
            t = endStep c (.fault .nodeAbsent) (s.setCtx c next)) ∧
          ((s.node n).state = .present →
            (x.outLen - wrote.outCursor < 4 * count → t = endStep c (.fault .outBufferShort) (s.setCtx c next)) ∧
            (4 * count ≤ x.outLen - wrote.outCursor → t = s.setCtx c
              { next with
                state := .ready
                reading := some (.staging (x.outAddr + BitVec.ofNat 64 wrote.outCursor) (4 * count)) }))))

/-! ### The wire -/

/-- A frame that the part builds has every field in its place (R201): the kind, the tag and flags, the address, point,
operation, count, deferral id and number of data words, the two signal vectors, the reply part, the data words and the CRC, in
22 bytes and 4 for each data word; and the frame is read back from its own bytes. The CRC-16 of no bytes is the initial value
FFFFh, and each byte more is eight shifts with the polynomial 1021h (R201); that a byte is fed most significant bit first, and
that nothing is inverted at the end, is the model's choice (assumption 3). -/
def Obligations.FrameBytesReadBack : Prop :=
  (let shift (crc : BitVec 16) (bit : Bool) : BitVec 16 := if crc.getLsbD 15 = bit then crc <<< 1 else (crc <<< 1) ^^^ 0x1021
   crc16 [] = 0xFFFF ∧
   ∀ (bytes : List Byte) (b : Byte), crc16 (bytes ++ [b])
     = [7, 6, 5, 4, 3, 2, 1, 0].foldl (fun crc i => shift crc (b.getLsbD i)) (crc16 bytes)) ∧
  ∀ f : Frame, FrameFits f → f.status ≠ .invalid →
    let bytes := frameBytes f
    let byte (i : Nat) : Nat := littleEndian bytes i 1
    let end20 := 20 + 4 * f.data.length
    bytes.length = 22 + 4 * f.data.length ∧ parseFrame bytes = .frame f ∧ byte 0 = frameKindByte f.kind ∧
    byte 1 % 8 = f.tag.val ∧ (byte 1).testBit 3 = f.retry ∧ (byte 1).testBit 4 = f.seq ∧ (byte 1).testBit 5 = f.mayDefer ∧
    byte 2 = f.addr ∧ byte 3 = f.point ∧ byte 4 = operationByte f.op ∧ byte 5 = f.count ∧ byte 6 = f.deferId ∧
    byte 7 = f.data.length ∧ littleEndian bytes 8 4 = f.attention.toNat ∧ littleEndian bytes 12 4 = f.collect.toNat ∧
    (f.status = .untouched → byte 16 = 0) ∧ (f.status = .done → byte 16 = 1) ∧ (f.status = .deferred → byte 16 = 2) ∧
    (f.status = .busy → byte 16 = 3) ∧ (f.status = .refused → byte 16 = 4) ∧ (f.status = .unknown → byte 16 = 5) ∧
    (byte 17).testBit 0 = f.valid ∧ byte 18 = f.delivered ∧ byte 19 = f.replyId ∧
    (∀ i w, f.data[i]? = some w → littleEndian bytes (20 + 4 * i) 4 = w.toNat) ∧
    littleEndian bytes end20 2 = (crc16 (bytes.take end20)).toNat

/-- A TRAIN frame carries address 31 and the training pattern (R5, R19, R201); its tag 0, its sequence bit 0 and 0 in every
other field are the model's choice (assumption 15). A frame handed to the loop controller is sent, its record joining the
transit list, or waits behind the frame being sent (R3); that the record joins as the transmission begins, before it has its
instant, is the model's choice (assumption 38). A transmission ends: the records without an instant take it, and the next frame
waiting is sent if the loop state permits it (R3, R17): in STOPPING, nothing but a resend of a COLLECT or CANCEL after a CORRUPT
return (R23), of a withdrawn operation too (the model's choice, assumption 17). A frame that may not be sent is dropped and its
transaction, if it is not a TRAIN or RATE frame, ends: "not performed" for a withdrawn operation, LOOP_DOWN otherwise (R17, R59,
R63); that its pair is made doubtful for a resend alone is the model's choice (assumption 17, by R44). The frame behind it is
then sent as far as the loop state permits. -/
def Obligations.FrameTransmitEndSendsNext : Prop :=
  let record (g : Frame) : TransitRecord :=
    { sender := if g.kind = .train ∨ g.kind = .rate then .loop else .tag g.tag, tag := g.tag, kind := g.kind, addr := g.addr,
      retry := g.retry, seq := g.seq, ended := none }
  (trainFrame = { kind := .train, tag := 0, retry := false, seq := false, addr := 31,
                  data := (List.replicate 8 [0xA5A5A5A5, 0x5A5A5A5A]).flatten }) ∧
  (∀ (g : Frame) (s : State),
     (s.loop.sending = none → handFrame g s
       = s.setLoop { s.loop with sending := some g, transit := s.loop.transit ++ [record g] }) ∧
     (s.loop.sending ≠ none → handFrame g s = s.setLoop { s.loop with waiting := s.loop.waiting ++ [g] })) ∧
  ∀ s : State, s.loop.sending ≠ none →
    let stamped := s.loop.transit.map fun r => if r.ended = none then { r with ended := some s.timebase } else r
    let v := s.setLoop { s.loop with transit := stamped, sending := none }
    (s.loop.waiting = [] → exec .frameTransmitEnd s = .next (react v)) ∧
    ∀ g rest, s.loop.waiting = g :: rest →
      (LoopPermits v g → exec .frameTransmitEnd s = .next (react (s.setLoop
        { s.loop with sending := some g, waiting := rest, transit := stamped ++ [record g] }))) ∧
      (¬ LoopPermits v g →
        let goesOn (w : State) : Prop :=
          (rest = [] → exec .frameTransmitEnd s = .next (react (w.setLoop { w.loop with waiting := [] }))) ∧
          ∀ g' rest', rest = g' :: rest' → LoopPermits w g' → exec .frameTransmitEnd s = .next (react (w.setLoop
            { w.loop with sending := some g', waiting := rest', transit := w.loop.transit ++ [record g'] }))
        (g.kind = .train ∨ g.kind = .rate → goesOn v) ∧
        ∀ tr : Transaction, g.kind ≠ .train → g.kind ≠ .rate → s.tag g.tag = some tr →
          let ending : Ending := if tr.withdrawn then .notPerformed else .loopDown
          goesOn (endTransaction g.tag tr ending (if g.retry then v.setDoubt tr.operation.node g.tag true else v)))

/-- A return with a bad CRC or length belongs to the oldest record, and a good one to the record it matches; a good one that
matches none, or whose kind no code is assigned to, is discarded (R14); a frame still being sent has its record too (MODEL'S
CHOICE, assumption 38). The class goes to the frame's transaction, and a good return sets the lost count to 0 and, while the
loop is RUNNING, has its signal vectors examined (R12, R15), after the class has been taken (MODEL'S CHOICE, assumption 13). A
TRAIN frame that is CORRUPT or comes back altered is followed by the next TRAIN frame; one that comes back intact in TRAINING is
lock: CENSUS, with the training timer stopped, the sequence bits, doubt flags and held-over sets cleared, and the census begun
with claims for addresses 1 and 2 (R19, R27, R44, R79). A RATE frame that returns in CENSUS, whatever its class, brings the rate
switch: TRAINING at the agreed rate (R20). A bad return with nothing on the wire changes nothing (MODEL'S CHOICE, assumption 7).
A CORRUPT return ends a withdrawn operation "not performed", in STOPPING ends any but a COLLECT's or a CANCEL's own frame
LOOP_DOWN, ends the operation by its node's state when that no longer allows the kind, and CORRUPT_LIMIT when the corrupt count
has reached the CRC retry limit, each time with the pair doubtful; otherwise the frame is sent again with the retry flag, clear
on a doubtful pair alone, and the count rises (R45, R54, R55, R58, R59, R63). A good return whose reply cannot be is treated as
a CORRUPT one: UNKNOWN to any kind but CANCEL, DEFERRED to any but COMMAND and COLLECT or to a COMMAND without may-defer or with
another id, REFUSED to a CANCEL, more delivered words than the COMMAND asked for or a PULSE's or TEST's delivered words at all,
and a collected result with a count above 16, an id above 15, or more than the WAITING entry it names asks for (R54, R71); a
status that no code is assigned to is so treated by the model's choice (assumption 19). -/
def Obligations.ReturnsMatchTransitRecords : Prop :=
  (∀ (bytes : List Byte) (s : State),
     let retrain (l : LoopController) (v : State) : State := handFrame trainFrame (v.setLoop l)
     let switch (l : LoopController) (rate : RateCode) (v : State) : State := handFrame trainFrame (v.setLoop
       { l with
         state := .training, rate, lost := 0, trainingTimer := some (s.timebase + 50000), rateSwitched := true
         agreed := none })
     (parseFrame bytes = .unknownKind → exec (.frameReturn bytes) s = .next s) ∧
     (parseFrame bytes = .corrupt →
       (s.loop.transit = [] → exec (.frameReturn bytes) s = .next s) ∧
       ∀ (r : TransitRecord) (rest : List TransitRecord), s.loop.transit = r :: rest →
         (∀ (t : Tag) (tr : Transaction), r.sender = .tag t → s.tag t = some tr →
           exec (.frameReturn bytes) s
             = .next (react (corruptReturn t tr (s.setLoop { s.loop with transit := rest })))) ∧
         (r.sender = .loop → s.loop.state = .training →
           exec (.frameReturn bytes) s = .next (react (retrain { s.loop with transit := rest } s))) ∧
         ∀ rate : RateCode, r.sender = .loop → s.loop.state = .census → s.loop.agreed = some rate →
           exec (.frameReturn bytes) s = .next (react (switch { s.loop with transit := rest } rate s))) ∧
     ∀ f, parseFrame bytes = .frame f →
       let matching (r : TransitRecord) : Prop :=
         r.tag = f.tag ∧ r.kind = f.kind ∧ r.addr = f.addr ∧ r.seq = f.seq ∧ r.retry = f.retry
       ((∀ r ∈ s.loop.transit, ¬ matching r) → exec (.frameReturn bytes) s = .next s) ∧
       ∀ (before after : List TransitRecord) (r : TransitRecord), s.loop.transit = before ++ r :: after →
         (∀ q ∈ before, ¬ matching q) → matching r →
         let left : LoopController := { s.loop with transit := before ++ after, lost := 0 }
         (∀ (t : Tag) (tr : Transaction), r.sender = .tag t → s.tag t = some tr →
           (s.loop.state ≠ .running →
             exec (.frameReturn bytes) s = .next (react (goodReturn t tr f (s.setLoop left)))) ∧
           (s.loop.state = .running →
             exec (.frameReturn bytes) s = .next (react (examineVectors f (goodReturn t tr f (s.setLoop left)))))) ∧
         (r.sender = .loop →
           (s.loop.state = .training → f.kind = .train →
             (f.data ≠ (List.replicate 8 [0xA5A5A5A5, 0x5A5A5A5A]).flatten →
               exec (.frameReturn bytes) s = .next (react (retrain left s))) ∧
             (f.data = (List.replicate 8 [0xA5A5A5A5, 0x5A5A5A5A]).flatten →
               ∃ u, exec (.frameReturn bytes) s = .next (react u) ∧
                 u.loop = { left with state := .census, trainingTimer := none } ∧
                 (∀ n, u.node n = { s.node n with seq := 0 }) ∧ (∀ n t, u.doubtful n t = false) ∧ (∀ n, u.heldOver n = 0) ∧
                 u.nodes.census = some { byCommand := false, claimed := 2, ended := 0 } ∧
                 u.window.claimsS
                   = s.window.claimsS ++ [{ owner := .census 0, node := 0 }, { owner := .census 1, node := 1 }] ∧
                 u = { s with
                   loop := u.loop, nodes := u.nodes
                   window := { s.window with claimsS := u.window.claimsS, doubt := u.window.doubt }
                   deferral := { s.deferral with heldOver := u.deferral.heldOver } })) ∧
           ∀ rate : RateCode, s.loop.state = .census → s.loop.agreed = some rate →
             exec (.frameReturn bytes) s = .next (react (switch left rate s)))) ∧
  ∀ (t : Tag) (tr : Transaction) (s : State), let n := tr.operation.node
    let kind : FrameKind := if tr.probe then .command else kindOf tr.operation.owner
    let allowed : Prop :=
      kind = .census ∨ (s.node n).state = .present ∨ kind = .nodeReset ∧ (s.node n).state = .silent
    let stopped : Prop := s.loop.state = .stopping ∧ ¬ (tr.probe = false ∧ (kind = .collect ∨ kind = .cancel))
    let ended (e : Ending) : State := endTransaction t tr e (s.setDoubt n t true)
    (tr.withdrawn = true → corruptReturn t tr s = ended .notPerformed) ∧
    (tr.withdrawn = false →
      (stopped → corruptReturn t tr s = ended .loopDown) ∧
      (¬ stopped → ¬ allowed → corruptReturn t tr s = ended .nodeState) ∧
      (¬ stopped → allowed → s.params.crcLimit ≤ tr.crc → corruptReturn t tr s = ended .corruptLimit) ∧
      (¬ stopped → allowed → tr.crc < s.params.crcLimit →
        let retry := !s.doubtful n t
        let f : Frame := { tr.frame with retry }
        corruptReturn t tr s = handFrame f (s.setTag t
          (some { tr with retry, crc := tr.crc + 1, afterLost := false, frame := f })))) ∧
    ∀ f : Frame,
      let result := f.status = .done ∨ f.status = .busy ∨ f.status = .refused
      let overWaiting : Prop := ∃ (d : DeferId) (c : CtxId) (op : CommandOp) (count : Nat) (due : Instant),
        d.val = f.replyId ∧ s.entry d = .waiting c n op count due ∧
          (count < f.delivered ∨ (op = .pulse ∨ op = .test) ∧ f.delivered ≠ 0)
      (f.status = .invalid ∨ f.status = .unknown ∧ kind ≠ .cancel ∨
        f.status = .deferred ∧ kind ≠ .command ∧ kind ≠ .collect ∨ kind = .cancel ∧ f.status = .refused ∨
        kind = .command ∧ (f.status = .deferred ∧ (tr.frame.mayDefer = false ∨ f.replyId ≠ tr.frame.deferId) ∨
          (tr.frame.op = some .read ∨ tr.frame.op = some .write) ∧ tr.frame.count < f.delivered ∨
          (tr.frame.op = some .pulse ∨ tr.frame.op = some .test) ∧ f.delivered ≠ 0) ∨
        kind = .collect ∧ result ∧ (16 < f.delivered ∨ 15 < f.replyId ∨ overWaiting)) →
      goodReturn t tr f s = corruptReturn t tr s

/-- A MASK answered, in any loop state, with no node asking for service. DONE: the tag is FREE, the pair's sequence bit
toggles, the mask carried is the applied mask, the flag clears when it is the desired mask, the untouched count of a PRESENT
node and the lost count are 0, and nothing else changes (R15, R33, R38, R43, R53). REFUSED clears the flag and leaves the
applied mask; UNTOUCHED, and a BUSY that is withdrawn, comes in STOPPING or reaches the busy limit, end the MASK with both as
they were; any other BUSY puts it into BACKOFF with its busy count raised (R38, R53, R57, R59, R63). What tagReleased does to
the pair and the silence count is stated in GoodReturnSettlesPairAndSilence. A MASK is claimed in RUNNING for a PRESENT node
that is mask-dirty and has no MASK operation (R37, R176); of several such nodes the lowest first is the model's choice
(assumption 8). -/
def Obligations.MaskDoneUpdatesNode : Prop :=
  (∀ (bytes : List Byte) (f : Frame) (r : TransitRecord) (t : Tag) (tr : Transaction) (n : NodeId) (s : State),
     ReturnReaches s bytes f r t tr → tr.operation.owner = .mask n → tr.operation.node = n → tr.reservation = none →
     let carried : Byte := (tr.frame.data.getD 0 0).setWidth 8
     let x := s.node n
     let w := tagReleased s .mask f r t tr
     let raised : Operation := { tr.operation with busy := tr.operation.busy + 1 }
     let ended := tr.withdrawn = true ∨ s.loop.state = .stopping ∨ s.params.busyLimit ≤ raised.busy
     (f.status = .done → ∃ u : State, exec (.frameReturn bytes) s = .next (react u) ∧
       u.loop = { s.loop with transit := s.loop.transit.erase r, lost := 0 } ∧
       (∀ t', u.tag t' = if t' = t then none else s.tag t') ∧ u.doubtful n t = false ∧
       u.node n = { x with
         seq := u.nodes.records[n.val].seq
         untouched := if x.state = .present then 0 else x.untouched
         applied := carried
         dirty := if carried = desiredMask s.attention.table n then false else x.dirty } ∧
       (∀ t' : Tag, (u.node n).seq.getLsbD t'.val = ((x.seq.getLsbD t'.val) != (t' == t))) ∧
       (∀ m, m ≠ n → u.node m = s.node m) ∧
       (∀ m g, ¬ (m = n ∧ g = t) → u.doubtful m g = s.doubtful m g) ∧
       u = { s with
         loop := u.loop, window := { s.window with tags := u.window.tags, doubt := u.window.doubt }
         nodes := { s.nodes with records := u.nodes.records } }) ∧
     (f.status = .refused →
       exec (.frameReturn bytes) s = .next (react (w.setNode n { w.node n with dirty := false }))) ∧
     (f.status = .untouched ∨ f.status = .busy ∧ ended → exec (.frameReturn bytes) s = .next (react w)) ∧
     (f.status = .busy → ¬ ended → exec (.frameReturn bytes) s = .next (react (w.setWindow
       { w.window with backoff := w.window.backoff ++ [(raised, s.timebase + s.params.busyBackoff)] })))) ∧
  ∀ s : State,
    let wants (n : NodeId) : Prop := (s.node n).state = .present ∧ (s.node n).dirty = true ∧
      operationExists s (fun o => decide (o.owner = .mask n)) = false
    (s.loop.state ≠ .running ∨ (∀ n, ¬ wants n) → settleMask s = none) ∧
    ∀ n, s.loop.state = .running → wants n → (∀ m : NodeId, m.val < n.val → ¬ wants m) → settleMask s = some
      (s.setWindow { s.window with claimsS := s.window.claimsS ++ [{ owner := .mask n, node := n }] })

/-- A COMMAND of a context answered, in any loop state (R53), its job in ISSUED or ABORTING. REFUSED and UNTOUCHED end its
step with that fault, the tag and a reservation FREE (R51, R68). BUSY in ISSUED below the busy limit puts the operation into
BACKOFF with its busy count raised and pauses the job; at the limit it ends BUSY_LIMIT (R57, R112), and in STOPPING LOOP_DOWN
(R63): that STOPPING goes before the busy limit is the model's choice (assumption 16). BUSY of a withdrawn operation in
ABORTING ends the job with its pending outcome, the staged words discarded (R59, R118), whatever its busy count and the loop
state: that the withdrawal goes before both is the model's choice (assumption 16). DEFERRED under its own deferral id makes
the entry WAITING with its deadline, raises the node's count, and a job in ISSUED is DEFERRED, while a job in ABORTING ends
and its entry is orphaned (R68, R74, R118). With an early result held, the entry is FREE and that result reaches the context
as the outcome, in ABORTING too: DONE, REFUSED, or BUSY with the busy count raised, whose step faults BUSY_LIMIT at the limit
and whose operation in ISSUED goes into BACKOFF below it, or in STOPPING ends LOOP_DOWN (R63, R68, R71, R92, R114, R118). That
the early BUSY below the limit ends a job in ABORTING with its step not ended is the model's choice (assumption 16). -/
def Obligations.CommandReturnsByStatus : Prop :=
  ∀ (bytes : List Byte) (f : Frame) (r : TransitRecord) (t : Tag) (tr : Transaction) (c : CtxId) (s : State),
    ReturnReaches s bytes f r t tr → tr.operation.owner = .context c →
    (s.ctx c).state = .issued ∨ (s.ctx c).state = .aborting →
    ((tr.frame.op = some .read ∨ tr.frame.op = some .write) ∧ f.delivered ≤ tr.frame.count ∨ f.delivered = 0) →
    let w := reservationReleased s .command f r t tr
    let op : Operation := { tr.operation with busy := tr.operation.busy + 1 }
    (f.status = .refused →
      exec (.frameReturn bytes) s = .next (react (endStep c (.fault .refused) (outcomeTaken c w)))) ∧
    (f.status = .untouched →
      exec (.frameReturn bytes) s = .next (react (endStep c (.fault .noTaker) (outcomeTaken c w)))) ∧
    (f.status = .busy →
      ((s.ctx c).state = .issued → tr.withdrawn = false →
        (s.loop.state = .stopping →
          exec (.frameReturn bytes) s = .next (react (endStep c (.fault .loopDown) (outcomeTaken c w)))) ∧
        (s.loop.state ≠ .stopping → s.params.busyLimit ≤ op.busy →
          exec (.frameReturn bytes) s = .next (react (endStep c (.fault .busyLimit) (outcomeTaken c w)))) ∧
        (s.loop.state ≠ .stopping → op.busy < s.params.busyLimit → exec (.frameReturn bytes) s = .next (react
          ((w.setCtx c { w.ctx c with state := .paused, pause := some .busy, deferredOp := none }).setWindow
            { w.window with backoff := w.window.backoff ++ [(op, s.timebase + s.params.busyBackoff)] })))) ∧
      ((s.ctx c).state = .aborting → tr.withdrawn = true → exec (.frameReturn bytes) s = .next (react
        (endPending c (w.setCtx c { w.ctx c with staging := [], pause := none, deferredOp := none }))))) ∧
    ∀ (d : DeferId) (m : NodeId) (kind : CommandOp) (count : Nat),
      f.status = .deferred → tr.reservation = some d → tr.frame.mayDefer = true → f.replyId = tr.frame.deferId →
      let v := tagReleased s .command f r t tr
      (s.entry d = .reserved c m kind count none →
        let waiting := (v.setEntry d (.waiting c m kind count (s.timebase + 1000 * s.params.deferDeadline))).setNode m
          { v.node m with outstanding := (v.node m).outstanding + 1 }
        ((s.ctx c).state = .issued → exec (.frameReturn bytes) s = .next (react (waiting.setCtx c
          { v.ctx c with state := .deferred, pause := none, deferredOp := some tr.operation }))) ∧
        ((s.ctx c).state = .aborting → exec (.frameReturn bytes) s = .next (react
          (endPending c (orphanEntry d (waiting.setCtx c { v.ctx c with staging := [] })))))) ∧
      ∀ early : DeferredResult, s.entry d = .reserved c m kind count (some early) →
        let v := v.setEntry d .free
        (early.status = .done → exec (.frameReturn bytes) s = .next (react
          (deliver c (.done early.valid early.delivered early.data) v))) ∧
        (early.status = .refused → exec (.frameReturn bytes) s = .next (react
          (endStep c (.fault .refused) (outcomeTaken c v)))) ∧
        (early.status = .busy →
          (s.params.busyLimit ≤ op.busy → exec (.frameReturn bytes) s = .next (react
            (endStep c (.fault .busyLimit) (outcomeTaken c v)))) ∧
          (op.busy < s.params.busyLimit →
            ((s.ctx c).state = .issued → s.loop.state = .stopping → exec (.frameReturn bytes) s = .next (react
              (endStep c (.fault .loopDown) (outcomeTaken c v)))) ∧
            ((s.ctx c).state = .issued → s.loop.state ≠ .stopping → exec (.frameReturn bytes) s = .next (react
              ((v.setCtx c { v.ctx c with state := .paused, pause := some .busy, deferredOp := none }).setWindow
                { v.window with
                  backoff := v.window.backoff ++ [({ op with fresh := true }, s.timebase + s.params.busyBackoff)] }))) ∧
            ((s.ctx c).state = .aborting → exec (.frameReturn bytes) s = .next (react
              (endPending c (v.setCtx c { v.ctx c with staging := [], pause := none, deferredOp := none }))))))

/-- A QUERY, a COLLECT and a CANCEL answered, in any loop state. A QUERY's DONE hands its source set to the attention unit,
and its REFUSED sets the node's query-refused flag; UNTOUCHED, and a BUSY that ends it, change nothing more (R168, R169). A
COLLECT without a result changes no entry; a result is dispatched by the entry it names: delivered to a WAITING owner, whose
BUSY faults the step BUSY_LIMIT at the busy limit and below it backs off, or in STOPPING faults LOOP_DOWN (R63, R92, R114),
stored in a RESERVED entry, discarded with the CANCEL withdrawn for an ORPHANED or CANCELLING one, and otherwise stale, with
its id taken out of the held-over set and a notice (R71 to R73). A CANCEL's DONE or UNKNOWN frees its CANCELLING entry; its
UNTOUCHED, and a BUSY at the limit, free it with the id held over (R39, R76); an UNTOUCHED that makes the node SILENT finds it
freed already (R77); a BUSY in STOPPING makes it ORPHANED (R63, R76). A withdrawn CANCEL's DONE or UNKNOWN takes its id out of
the held-over set, and its UNTOUCHED and BUSY change no entry (R59, R76). A QUERY or CANCEL answered BUSY below the limit
backs off (R57), but for a withdrawn one and in STOPPING, both of which go before the limit (MODEL'S CHOICE, assumption 16). A
withdrawal takes the owner's operation out of the claim queues and out of BACKOFF, and marks the transaction that holds a tag
for it (R49, R59). -/
def Obligations.QueryCollectCancelReturns : Prop :=
  (∀ (bytes : List Byte) (f : Frame) (r : TransitRecord) (t : Tag) (tr : Transaction) (n : NodeId) (s : State),
     ReturnReaches s bytes f r t tr → tr.operation.node = n → tr.reservation = none →
     let backedOff (w : State) : State := w.setWindow { w.window with
       backoff := w.window.backoff ++
         [({ tr.operation with busy := tr.operation.busy + 1 }, s.timebase + s.params.busyBackoff)] }
     let stopping := s.loop.state = .stopping
     let limit := s.params.busyLimit ≤ tr.operation.busy + 1
     let ended := tr.withdrawn = true ∨ stopping ∨ limit
     (tr.operation.owner = .query n → let w := tagReleased s .query f r t tr
       (f.status = .done →
         exec (.frameReturn bytes) s = .next (react (takeSourceSet n ((f.data.getD 0 0).setWidth 8) w))) ∧
       (f.status = .refused → ∃ q : BitVec 30, exec (.frameReturn bytes) s = .next (react { w with queryRefused := q }) ∧
         ∀ m : NodeId, q.getLsbD m.val = (s.queryRefused.getLsbD m.val || m == n)) ∧
       (f.status = .untouched ∨ f.status = .busy ∧ ended → exec (.frameReturn bytes) s = .next (react w)) ∧
       (f.status = .busy → ¬ ended → exec (.frameReturn bytes) s = .next (react (backedOff w)))) ∧
     (tr.operation.owner = .collect n → let w := tagReleased s .collect f r t tr
       (f.status = .deferred ∨ f.status = .untouched → exec (.frameReturn bytes) s = .next (react w)) ∧
       ∀ d : DeferId, f.status = .done ∨ f.status = .busy ∨ f.status = .refused → f.replyId = d.val → f.delivered ≤ 16 →
         let freed := (w.setEntry d .free).setNode n { w.node n with outstanding := (w.node n).outstanding - 1 }
         (∀ c op count due, s.entry d = .waiting c n op count due → f.delivered ≤ count →
           (op = .pulse ∨ op = .test → f.delivered = 0) →
           (f.status = .done → exec (.frameReturn bytes) s
             = .next (react (deliver c (.done f.valid f.delivered f.data) freed))) ∧
           (f.status = .refused → (s.ctx c).state = .deferred → exec (.frameReturn bytes) s
             = .next (react (endStep c (.fault .refused) (outcomeTaken c freed)))) ∧
           ∀ o : Operation, f.status = .busy → (s.ctx c).state = .deferred → (s.ctx c).deferredOp = some o →
             (s.params.busyLimit ≤ o.busy + 1 → exec (.frameReturn bytes) s
               = .next (react (endStep c (.fault .busyLimit) (outcomeTaken c freed)))) ∧
             (o.busy + 1 < s.params.busyLimit → stopping → exec (.frameReturn bytes) s
               = .next (react (endStep c (.fault .loopDown) (outcomeTaken c freed)))) ∧
             (o.busy + 1 < s.params.busyLimit → ¬ stopping → exec (.frameReturn bytes) s = .next (react
               ((freed.setCtx c { s.ctx c with state := .paused, pause := some .busy, deferredOp := none }).setWindow
                 { freed.window with
                   backoff := freed.window.backoff ++
                     [({ o with busy := o.busy + 1, fresh := true }, s.timebase + s.params.busyBackoff)] })))) ∧
         (∀ c op count early, s.entry d = .reserved c n op count early →
           exec (.frameReturn bytes) s = .next (react (w.setEntry d (.reserved c n op count (some
             { status := f.status, valid := f.valid, delivered := f.delivered, data := f.data }))))) ∧
         (∀ op count, s.entry d = .orphaned n op count ∨ s.entry d = .cancelling n op count →
           exec (.frameReturn bytes) s = .next (react (withdraw (.cancel d) freed))) ∧
         (s.entry d = .free ∨ (∃ m op count, m ≠ n ∧ (s.entry d = .orphaned m op count ∨ s.entry d = .cancelling m op count)) ∨
             (∃ c m op count early, m ≠ n ∧ s.entry d = .reserved c m op count early) ∨
             (∃ c m op count due, m ≠ n ∧ s.entry d = .waiting c m op count due) →
           ∃ held : BitVec 16, (∀ e : DeferId, held.getLsbD e.val = ((s.heldOver n).getLsbD e.val && !(e == d))) ∧
             exec (.frameReturn bytes) s = .next (react
               (notify (.node n) (.node (s.node n).state .staleResult 0) (w.setHeldOver n held))))) ∧
     ∀ d : DeferId, tr.operation.owner = .cancel d → let w := tagReleased s .cancel f r t tr
       (∀ op count, s.entry d = .cancelling n op count → tr.withdrawn = false →
         let freed := (w.setEntry d .free).setNode n { w.node n with outstanding := (w.node n).outstanding - 1 }
         let left := (s.node n).state = .present ∧ s.params.silence ≤ (s.node n).untouched + 1
         (f.status = .done ∨ f.status = .unknown → exec (.frameReturn bytes) s = .next (react freed)) ∧
         (f.status = .untouched ∧ ¬ left ∨ f.status = .busy ∧ ¬ stopping ∧ limit →
           ∃ held : BitVec 16, (∀ e : DeferId, held.getLsbD e.val = ((s.heldOver n).getLsbD e.val || e == d)) ∧
             exec (.frameReturn bytes) s = .next (react (freed.setHeldOver n held))) ∧
         (f.status = .untouched → left → exec (.frameReturn bytes) s = .next (react w)) ∧
         (f.status = .busy → stopping →
           exec (.frameReturn bytes) s = .next (react (w.setEntry d (.orphaned n op count))))) ∧
       (f.status = .busy → ¬ ended → exec (.frameReturn bytes) s = .next (react (backedOff w))) ∧
       (tr.withdrawn = true →
         (f.status = .untouched ∨ f.status = .busy → exec (.frameReturn bytes) s = .next (react w)) ∧
         (f.status = .done ∨ f.status = .unknown →
           ∃ held : BitVec 16, (∀ e : DeferId, held.getLsbD e.val = ((s.heldOver n).getLsbD e.val && !(e == d))) ∧
             exec (.frameReturn bytes) s = .next (react (w.setHeldOver n held))))) ∧
  ∀ (o : Owner) (s : State), let others (q : List Operation) : List Operation := q.filter fun x => !decide (x.owner = o)
    withdraw o s = s.setWindow { s.window with
      claimsS := others s.window.claimsS, claimsI := others s.window.claimsI, claimsJ := others s.window.claimsJ
      backoff := s.window.backoff.filter fun x => !decide (x.1.owner = o)
      tags := s.window.tags.map fun t => t.map fun tr =>
        if tr.operation.owner = o then { tr with withdrawn := true } else tr }

/-- A CENSUS of an address answered, in any loop state, while a census is under way (R27 to R31): DONE with a well-formed
identity record makes the node PRESENT, or INCOMPATIBLE when it lacks the current rate, and a finding of PRESENT clears its
query-refused flag (R168); UNTOUCHED makes it ABSENT; REFUSED, a record that is not well formed and a BUSY at the limit make a
PRESENT or SILENT node SILENT; a BUSY below it backs off, and a withdrawn one or one in STOPPING changes nothing (R57, R59,
R63), before the limit (MODEL'S CHOICE, assumption 16); each with the notice of a different serial number or of a changed state,
and a node that leaves PRESENT frees what it held (R26). The census then claims the next address, and with the thirtieth ending
it reports, to the CENSUS command with the number of PRESENT records or, with the highest rate that every PRESENT node supports,
to the loop controller (R20, R31, R154). A NODE RESET's DONE makes the node PRESENT with every source masked, frees its entries,
the WAITING owners faulting NODE_RESET, from deferral id 0 up (MODEL'S CHOICE, assumption 14), clears its query-refused flag and
ends the command OK; REFUSED, UNTOUCHED, a BUSY at the limit or in STOPPING end it with that outcome, and a BUSY below backs off
(R35, R36, R63, R78, R155, R179); that a good return in STOPPING does so too, where R35 gives LOOP_DOWN, is the model's choice
(assumption 39). An agreed rate above the current one is handed over in one RATE frame, unless the rate has been switched since
training began; otherwise the loop is RUNNING with its notice, each slot in WAITING_LOOP is ACTIVE with its own, and a LOOP
START that waits ends OK with that number in bits 0-7 and the rate code in bits 8-15 (R20, R152, R184). What nodeLeft does is
stated in GoodReturnSettlesPairAndSilence. The model's choices: tag 0, sequence bit 0 and zeros in the RATE frame (assumption
15), and the slots' notices in slot order behind the loop's (assumption 14). -/
def Obligations.CensusAndNodeResetReturns : Prop :=
  ((∀ (bytes : List Byte) (f : Frame) (r : TransitRecord) (t : Tag) (tr : Transaction) (n : NodeId) (s : State),
      ReturnReaches s bytes f r t tr → tr.operation.owner = .census n → tr.operation.node = n → tr.reservation = none →
      s.nodes.census ≠ none →
      let stopping := s.loop.state = .stopping
      let limit := s.params.busyLimit ≤ tr.operation.busy + 1
      let w := tagReleased s .census f r t tr
      let x := w.node n
      let word0 := f.data.getD 0 0
      let i : Identity :=
        { kind := word0.setWidth 16, points := word0.toNat / 65536 % 256, sources := word0.toNat / 16777216,
          serial := f.data.getD 1 0, rates := (f.data.getD 2 0).setWidth 8 &&& 0x0E }
      let wellFormed := (1 ≤ i.points ∧ i.points ≤ 64) ∧ i.sources ≤ 8 ∧ i.rates ≠ 0
      let left (before : NodeState) (v : State) : State :=
        if before = .present ∧ (v.node n).state ≠ .present then nodeLeft n v else v
      let told (y : NodeRecord) (reason : NodeReason) (v : State) : State :=
        left x.state (notify (.node n) (.node y.state reason 0) (v.setNode n y))
      let changed := ∃ old, x.identity = some old ∧ old.serial ≠ i.serial
      (f.status = .done → wellFormed →
        (i.rates.getLsbD s.loop.rate.code = true → ∃ q : BitVec 30,
          (∀ m : NodeId, q.getLsbD m.val = (s.queryRefused.getLsbD m.val && !(m == n))) ∧
          let y : NodeRecord := { x with state := .present, identity := some i, untouched := 0, dirty := true }
          let v : State := { w with queryRefused := q }
          (changed → exec (.frameReturn bytes) s = .next (react (censusStep (told y .identityChanged v)))) ∧
          (¬ changed → x.state ≠ .present →
            exec (.frameReturn bytes) s = .next (react (censusStep (told y .census v)))) ∧
          (¬ changed → x.state = .present →
            exec (.frameReturn bytes) s = .next (react (censusStep (v.setNode n y))))) ∧
        (i.rates.getLsbD s.loop.rate.code = false →
          let y : NodeRecord := { x with state := .incompatible, identity := some i }
          (changed → exec (.frameReturn bytes) s = .next (react (censusStep (told y .identityChanged w)))) ∧
          (¬ changed → x.state ≠ .incompatible →
            exec (.frameReturn bytes) s = .next (react (censusStep (told y .census w)))) ∧
          (¬ changed → x.state = .incompatible →
            exec (.frameReturn bytes) s = .next (react (censusStep (w.setNode n y)))))) ∧
      (f.status = .untouched →
        (x.state ≠ .absent → exec (.frameReturn bytes) s
          = .next (react (censusStep (told { x with state := .absent } .census w)))) ∧
        (x.state = .absent → exec (.frameReturn bytes) s = .next (react (censusStep w)))) ∧
      (f.status = .refused ∨ f.status = .done ∧ ¬ wellFormed ∨
          f.status = .busy ∧ tr.withdrawn = false ∧ ¬ stopping ∧ limit →
        (x.state = .present → exec (.frameReturn bytes) s
          = .next (react (censusStep (told { x with state := .silent } .census w)))) ∧
        (x.state ≠ .present → exec (.frameReturn bytes) s = .next (react (censusStep w)))) ∧
      (f.status = .busy → tr.withdrawn = true ∨ stopping → exec (.frameReturn bytes) s = .next (react w)) ∧
      (f.status = .busy → tr.withdrawn = false → ¬ stopping → ¬ limit → exec (.frameReturn bytes) s = .next (react
        (w.setWindow { w.window with backoff := w.window.backoff ++
          [({ tr.operation with busy := tr.operation.busy + 1 }, s.timebase + s.params.busyBackoff)] })))) ∧
   (∀ (run : CensusRun) (s : State), s.nodes.census = some run →
      let w : State := { s with nodes := { s.nodes with census := some { run with ended := run.ended + 1 } } }
      let claim (m : NodeId) : State :=
        { s with
          nodes := { s.nodes with census := some { run with ended := run.ended + 1, claimed := run.claimed + 1 } }
          window := { s.window with claimsS := s.window.claimsS ++ [{ owner := .census m, node := m }] } }
      (∀ m : NodeId, m.val = run.claimed → run.ended + 1 ≠ 30 → censusStep s = claim m) ∧
      (30 ≤ run.claimed → run.ended + 1 ≠ 30 → censusStep s = w) ∧
      (30 ≤ run.claimed → run.ended + 1 = 30 →
        let v : State := { s with nodes := { s.nodes with census := none } }
        (run.byCommand = true → adminWait s = some .census → censusStep s = endAdmin .ok (some (presentCount s)) v) ∧
        (run.byCommand = false → censusStep s = takeAgreedRate (agreedRate v) v))) ∧
   (∀ s : State, presentCount s = ((List.finRange 30).filter fun n : NodeId => decide ((s.node n).state = .present)).length) ∧
   (∀ s : State, let supported (c : RateCode) : Prop :=
        ∀ n, (s.node n).state = .present → ∃ i, (s.node n).identity = some i ∧ i.rates.getLsbD c.code = true
      ((∀ n, (s.node n).state ≠ .present) → agreedRate s = s.loop.rate) ∧
      ((∃ n, (s.node n).state = .present) → ∀ c, supported c →
        supported (agreedRate s) ∧ c.code ≤ (agreedRate s).code)) ∧
   ∀ (bytes : List Byte) (f : Frame) (r : TransitRecord) (t : Tag) (tr : Transaction) (n : NodeId) (s : State),
     ReturnReaches s bytes f r t tr → tr.operation.owner = .nodeReset n → tr.operation.node = n → tr.reservation = none →
     adminWait s = some .nodeReset →
     let w := tagReleased s .nodeReset f r t tr
     (f.status = .refused → exec (.frameReturn bytes) s = .next (react (endAdmin .refused none w))) ∧
     (f.status = .untouched → exec (.frameReturn bytes) s = .next (react (endAdmin .noTaker none w))) ∧
     (f.status = .busy → tr.withdrawn = false →
       (s.loop.state = .stopping → exec (.frameReturn bytes) s = .next (react (endAdmin .loopDown none w))) ∧
       (s.loop.state ≠ .stopping → s.params.busyLimit ≤ tr.operation.busy + 1 →
         exec (.frameReturn bytes) s = .next (react (endAdmin .busyLimit none w))) ∧
       (s.loop.state ≠ .stopping → tr.operation.busy + 1 < s.params.busyLimit →
         exec (.frameReturn bytes) s = .next (react (w.setWindow { w.window with backoff := w.window.backoff ++
           [({ tr.operation with busy := tr.operation.busy + 1 }, s.timebase + s.params.busyBackoff)] })))) ∧
     (f.status = .done →
       let table := (List.finRange 16).foldl (fun (v : State) d =>
         let freed : State := (v.setEntry d .free).setNode n { v.node n with outstanding := (v.node n).outstanding - 1 }
         match v.entry d with
         | .waiting c m _ _ _ => if m ≠ n then v
           else if (v.ctx c).state.hasOperation then endStep c (.fault .nodeReset) (outcomeTaken c freed) else freed
         | .orphaned m _ _ => if m = n then freed else v
         | .cancelling m _ _ => if m = n then withdraw (.cancel d) freed else v
         | .reserved .. | .free => v)
         (w.setNode n { w.node n with state := .present, untouched := 0, applied := 0xFF, dirty := true })
       let others (q : List Operation) : List Operation := q.filter fun o => !decide (o.owner = .query n)
       ∃ u, exec (.frameReturn bytes) s = .next (react (endAdmin .ok none u)) ∧
         u = notify (.node n) (.node .present .reset 0)
           { ((table.setHeldOver n 0).setNode n { table.node n with outstanding := 0 }) with
             queryRefused := u.queryRefused
             window := { table.window with
               claimsS := others table.window.claimsS, claimsI := others table.window.claimsI
               claimsJ := others table.window.claimsJ
               backoff := table.window.backoff.filter fun o => !decide (o.1.owner = .query n) } } ∧
         (∀ m : NodeId, u.queryRefused.getLsbD m.val = (s.queryRefused.getLsbD m.val && !(m == n))) ∧
         ((∀ d c op count due, s.entry d ≠ .waiting c n op count due) →
         u.node n = { w.node n with
           state := .present, untouched := 0, applied := 0xFF, dirty := true, outstanding := 0 } ∧
         (∀ m, m ≠ n → u.node m = w.node m) ∧ u.heldOver n = 0 ∧ (∀ m, m ≠ n → u.heldOver m = s.heldOver m) ∧
         (∀ d, (∃ op count, s.entry d = .orphaned n op count ∨ s.entry d = .cancelling n op count) → u.entry d = .free) ∧
         (∀ d, (∀ op count, s.entry d ≠ .orphaned n op count ∧ s.entry d ≠ .cancelling n op count) → u.entry d = s.entry d) ∧
         (∀ o ∈ u.window.claimsS, o.owner ≠ .query n) ∧ (∀ o ∈ u.window.backoff, o.1.owner ≠ .query n) ∧
         (∃ b ∈ u.notices, b.subject = .node n ∧ b.body = .node .present .reset 0)))) ∧
  ∀ (rate : RateCode) (s : State),
    let switches := s.loop.rate.code < rate.code ∧ s.loop.rateSwitched = false
    let up := (List.finRange 8).foldl (fun (v : State) k => if (v.slot k).state = .waitingLoop then
        notify (.slot k) (.slot .active .loopRunning (v.slot k).sequence (v.slot k).missed)
          (v.setSlot k { v.slot k with state := .active })
      else v) (notify .loop (.loop .running .running s.loop.rate) (s.setLoop { s.loop with state := .running }))
    (switches → takeAgreedRate rate s = handFrame { kind := .rate, addr := 31, data := [BitVec.ofNat 32 rate.code] }
      (s.setLoop { s.loop with agreed := some rate })) ∧
    (¬ switches → adminWait s = some .loopStart →
      takeAgreedRate rate s = endAdmin .ok (some (presentCount s + 256 * s.loop.rate.code)) up) ∧
    (¬ switches → adminWait s ≠ some .loopStart → takeAgreedRate rate s = up)

/-- The signal vectors of a good return (R12): in increasing node address, a QUERY is claimed for each PRESENT node whose
attention bit is set, whose query-refused flag is clear and which has no QUERY operation (R168), and a COLLECT for each PRESENT
node whose collect bit is set and which has no COLLECT operation (R70), a node's QUERY before its COLLECT (R46). While the
query-refused flag is set the node's attention bits are dropped (R169). An operation exists while it waits, is in BACKOFF, or
holds a tag (R42). -/
def Obligations.SignalVectorsClaimService : Prop :=
  (∀ (p : Operation → Bool) (s : State), operationExists s p = true ↔
     (∃ o ∈ s.window.claimsS, p o = true) ∨ (∃ o ∈ s.window.claimsI, p o = true) ∨ (∃ o ∈ s.window.claimsJ, p o = true) ∨
     (∃ o ∈ s.window.backoff, p o.1 = true) ∨ ∃ t tr, s.tag t = some tr ∧ p tr.operation = true) ∧
  ∀ (f : Frame) (s : State),
    let asks (vector : Word) (owner : Owner) (n : NodeId) : Bool :=
      vector.getLsbD (n.val + 1) && (s.node n).state == .present && !operationExists s fun o => decide (o.owner = owner)
    examineVectors f s = s.setWindow { s.window with
      claimsS := s.window.claimsS ++ (List.finRange 30).flatMap fun n =>
        (if asks f.attention (.query n) n && !s.queryRefused.getLsbD n.val then
          [{ owner := .query n, node := n }] else []) ++
        (if asks f.collect (.collect n) n then [{ owner := .collect n, node := n }] else []) }

/-- A transaction's sending LOST in CENSUS or RUNNING: the first raises the lost count; a withdrawn operation then ends "not
performed", one whose node's state forbids the kind ends by that state, each with its pair doubtful, and any other is sent
again on its tag, with the retry flag set except on a doubtful pair; the second in a row breaks the loop (R15, R21, R44, R45,
R56, R58, R59). In STOPPING the count does not rise and the operation ends, "not performed" when it is withdrawn and LOOP_DOWN
otherwise, its pair doubtful (R23, R63); that the withdrawal goes first there is the model's choice (assumption 16). A TRAIN
frame LOST in TRAINING is followed by the next, and a RATE frame LOST brings the rate switch (R19, R20). That the expiry brings
the timebase to its instant is the model's choice (assumptions 2 and 34). A transaction's ending makes the tag and its
reservation FREE and goes to its owner (R51, R53). The ending of an operation that no good return ends, by owner. A context
whose job is past its step is not reached; any other's step faults LOOP_DOWN, CORRUPT_LIMIT, BUSY_LIMIT, or NODE_SILENT or
NODE_ABSENT by the node's state, and "not performed" ends the job with its pending outcome, the step not counted (R58, R63,
R112, R118). A CENSUS that ends CORRUPT_LIMIT or BUSY_LIMIT makes a PRESENT node SILENT with its notice and the census goes on;
with LOOP_DOWN it has been abandoned (R29, R32, R63). A NODE RESET ends its command CORRUPT_LIMIT, BUSY_LIMIT or LOOP_DOWN
(R35), and NO_TAKER for the node's state (MODEL'S CHOICE, assumption 22). A QUERY, a MASK and a COLLECT change nothing (R38,
R73, R169). A CANCEL's LOOP_DOWN makes its CANCELLING entry ORPHANED; CORRUPT_LIMIT, BUSY_LIMIT and the node's state free it
with its id held over; a withdrawn CANCEL changes nothing (R39, R72, R76). -/
def Obligations.LostSendingByLoopState : Prop :=
  ((∀ (t : Tag) (tr : Transaction) (r : TransitRecord) (i : Instant) (s : State),
      s.loop.transit.find? (fun r => r.sender = .tag t && r.ended.isSome) = some r → r.sender = .tag t → r.ended = some i →
      s.tag t = some tr →
      let v := reachInstant (i + s.params.returnTimeout) s
      let n := tr.operation.node
      let left (lost : Nat) : State := v.setLoop { s.loop with transit := s.loop.transit.erase r, lost }
      ((s.loop.state = .census ∨ s.loop.state = .running) →
        (s.loop.lost = 0 →
          (tr.withdrawn = true → exec (.returnTimeout (.tag t)) s
            = .next (react (endTransaction t tr .notPerformed ((left 1).setDoubt n t true)))) ∧
          (tr.withdrawn = false → stateAllows (sentKind tr) (s.node n).state = false → exec (.returnTimeout (.tag t)) s
            = .next (react (endTransaction t tr .nodeState ((left 1).setDoubt n t true)))) ∧
          (tr.withdrawn = false → stateAllows (sentKind tr) (s.node n).state = true →
            let retry := !s.doubtful n t
            exec (.returnTimeout (.tag t)) s = .next (react (handFrame { tr.frame with retry } ((left 1).setTag t
              (some { tr with retry, afterLost := true, frame := { tr.frame with retry } })))))) ∧
        (1 ≤ s.loop.lost → exec (.returnTimeout (.tag t)) s = .next (react
          (loopBreak .returnsLost (left s.loop.lost))))) ∧
      (s.loop.state = .stopping →
        (tr.withdrawn = true → exec (.returnTimeout (.tag t)) s
          = .next (react (endTransaction t tr .notPerformed ((left s.loop.lost).setDoubt n t true)))) ∧
        (tr.withdrawn = false → exec (.returnTimeout (.tag t)) s
          = .next (react (endTransaction t tr .loopDown ((left s.loop.lost).setDoubt n t true)))))) ∧
   ∀ (r : TransitRecord) (i : Instant) (s : State),
     s.loop.transit.find? (fun r => r.sender = .loop && r.ended.isSome) = some r → r.sender = .loop → r.ended = some i →
     let v := reachInstant (i + s.params.returnTimeout) s
     let left : LoopController := { s.loop with transit := s.loop.transit.erase r }
     (s.loop.state = .training → exec (.returnTimeout .loop) s = .next (react (handFrame trainFrame (v.setLoop left)))) ∧
     ∀ rate : RateCode, s.loop.state = .census → s.loop.agreed = some rate →
       exec (.returnTimeout .loop) s = .next (react (handFrame trainFrame (v.setLoop
         { left with
           state := .training, rate, lost := 0, trainingTimer := some (v.timebase + 50000), rateSwitched := true
           agreed := none })))) ∧
  (∀ (t : Tag) (tr : Transaction) (e : Ending) (s : State), endTransaction t tr e s =
     ownerEnds tr.operation ((tr.frame.data.getD 0 0).setWidth 8) tr.withdrawn e
       (match tr.reservation with
         | some d => (s.setTag t none).setEntry d .free
         | none => s.setTag t none)) ∧
  ∀ (op : Operation) (mask : Byte) (withdrawn : Bool) (s : State),
    let ends (e : Ending) : State := ownerEnds op mask withdrawn e s
    let failed (e : Ending) : Prop := e = .corruptLimit ∨ e = .busyLimit
    let down (e : Ending) : Prop := e = .loopDown ∨ e = .notPerformed
    let ungood (e : Ending) : Prop := failed e ∨ down e ∨ e = .nodeState
    (∀ c, op.owner = .context c → let x := s.ctx c
      (x.state = .free ∨ x.state = .admitting ∨ x.state = .completing → ∀ e, ungood e → ends e = s) ∧
      (x.state ≠ .free → x.state ≠ .admitting → x.state ≠ .completing →
        let faulted (cause : Cause) : State := endStep c (.fault cause) (outcomeTaken c s)
        let dropped : Context := { x with deferredOp := none, pause := none, staging := [] }
        ends .loopDown = faulted .loopDown ∧ ends .corruptLimit = faulted .corruptLimit ∧
        ends .busyLimit = faulted .busyLimit ∧
        ends .nodeState = faulted (if (s.node op.node).state = .silent then .nodeSilent else .nodeAbsent) ∧
        ends .notPerformed = endPending c (s.setCtx c dropped) ∧
        ∀ p : Pending, x.pending = some p → ends .notPerformed = enterCompleting c (pendingOutcome p)
          (s.setCtx c { dropped with stopStep := some (x.stopStep.getD x.index) }))) ∧
    (∀ n, op.owner = .census n → let y := s.node n
      (s.nodes.census = none → ∀ e, ungood e → ends e = s) ∧ (∀ e, down e ∨ e = .nodeState → ends e = s) ∧
      (s.nodes.census ≠ none → ∀ e, failed e →
        (y.state = .present → ends e = censusStep (nodeLeft n (notify (.node n) (.node .silent .census 0)
          (s.setNode n { y with state := .silent })))) ∧
        (y.state ≠ .present → ends e = censusStep s))) ∧
    (∀ n, op.owner = .nodeReset n →
      (adminWait s ≠ some .nodeReset → ∀ e, ungood e → ends e = s) ∧
      (adminWait s = some .nodeReset →
        ends .corruptLimit = endAdmin .corruptLimit none s ∧ ends .busyLimit = endAdmin .busyLimit none s ∧
        ends .nodeState = endAdmin .noTaker none s ∧ ∀ e, down e → ends e = endAdmin .loopDown none s)) ∧
    (∀ n, op.owner = .query n ∨ op.owner = .mask n ∨ op.owner = .collect n → ∀ e, ungood e → ends e = s) ∧
    ∀ d, op.owner = .cancel d →
      (withdrawn = true → ∀ e, ungood e → ends e = s) ∧ ends .notPerformed = s ∧
      ((∀ n kind count, s.entry d ≠ .cancelling n kind count) → ∀ e, ungood e → ends e = s) ∧
      ∀ n kind count, withdrawn = false → s.entry d = .cancelling n kind count →
        ends .loopDown = s.setEntry d (.orphaned n kind count) ∧
        ∀ e, failed e ∨ e = .nodeState → ∃ held : BitVec 16,
          (∀ i : DeferId, held.getLsbD i.val = ((s.heldOver n).getLsbD i.val || i == d)) ∧
          ends e = (((s.setEntry d .free).setNode n
            { s.node n with outstanding := (s.node n).outstanding - 1 })).setHeldOver n held

/-- A busy backoff ends. In RUNNING, an operation's claim joins the tail of its class queue, keeping its busy count, and a
context's job, its node still PRESENT, is READY (R46, R57, R85, R113). A context whose node is not PRESENT ends its step
NODE_SILENT or NODE_ABSENT, and one that finds the loop not RUNNING, or an operation of class S that its loop state does not
permit, ends LOOP_DOWN (R46, R85, R92). That the expiry brings the timebase to its instant is the model's choice (assumptions
2 and 34). -/
def Obligations.BusyBackoffClaimsAgain : Prop :=
  ∀ (op : Operation) (due : Instant) (s : State),
    s.window.backoff.find? (fun o => o.1.owner = op.owner) = some (op, due) →
    let v := reachInstant due s
    let v := v.setWindow { v.window with backoff := s.window.backoff.filter fun o => !(o.1.owner == op.owner) }
    (∀ c, op.owner = .context c →
      let ready := v.setCtx c { s.ctx c with state := .ready, pause := none }
      ((s.node op.node).state = .present →
        (s.loop.state = .running → exec (.busyBackoffExpiry op.owner) s = .next (react
          (pushClaim { op with fresh := true } ready))) ∧
        (s.loop.state ≠ .running → exec (.busyBackoffExpiry op.owner) s = .next (react
          (endStep c (.fault .loopDown) ready)))) ∧
      ((s.node op.node).state = .silent → exec (.busyBackoffExpiry op.owner) s = .next (react
        (endStep c (.fault .nodeSilent) ready))) ∧
      ((s.node op.node).state = .absent ∨ (s.node op.node).state = .incompatible →
        exec (.busyBackoffExpiry op.owner) s = .next (react (endStep c (.fault .nodeAbsent) ready)))) ∧
    ((∀ c, op.owner ≠ .context c) →
      let permitted := s.loop.state = .running ∨ s.loop.state = .census ∧ ∃ n, op.owner = .census n
      (permitted → exec (.busyBackoffExpiry op.owner) s = .next (react (pushClaim { op with fresh := true } v))) ∧
      (¬ permitted → exec (.busyBackoffExpiry op.owner) s = .next (react
        (ownerEnds { op with fresh := true } 0 false .loopDown v))))

/-- Signal loss breaks the loop from CENSUS and RUNNING and is ignored in every other state; a break enters BROKEN with the
transit list empty, the count 0, the retrain timer by the retrain interval and the loop notice (R15, R21). The training
timer's expiry in TRAINING breaks it with reason training timeout; the retrain timer's expiry in BROKEN starts training at
rate code 1 (R18, R19, R22, R152). That either expiry brings the timebase to its timer's instant is the model's choice
(assumptions 2 and 34). A LOOP START that waits ends LOOP_NOT_RUNNING with the notice's reason as its detail (R152), its
record behind those of the jobs that a break ends (MODEL'S CHOICE, assumption 14). What tellBroken does is stated in
BreakEmptiesWindowAndTable. -/
def Obligations.SignalLossAndTrainingTimersMoveLoop : Prop :=
  ((∀ s : State,
      (s.loop.state = .census ∨ s.loop.state = .running →
        exec .signalLoss s = .next (react (failLoopStart .signalLost (tellBroken
          (notify .loop (.loop .broken .signalLost s.loop.rate) (s.setLoop
            { s.loop with
              state := .broken, transit := [], lost := 0, trainingTimer := none, sending := none, waiting := [],
              agreed := none,
              retrainTimer := if s.params.retrain = 0 then none
                              else some (s.timebase + 1000 * s.params.retrain) })))))) ∧
      (s.loop.state ≠ .census → s.loop.state ≠ .running → exec .signalLoss s = .next s)) ∧
   (∀ (due : Instant) (s : State), let v := reachInstant due s
      (s.loop.state = .training → s.loop.trainingTimer = some due →
        exec .trainingTimeout s = .next (react (failLoopStart .trainingTimeout
          (notify .loop (.loop .broken .trainingTimeout s.loop.rate) (v.setLoop
            { s.loop with
              state := .broken, transit := [], lost := 0, trainingTimer := none, sending := none, waiting := [],
              agreed := none,
              retrainTimer := if s.params.retrain = 0 then none
                              else some (v.timebase + 1000 * s.params.retrain) }))))) ∧
      (s.loop.state = .broken → s.loop.retrainTimer = some due →
        exec .retrainTimerExpiry s = .next (react (handFrame trainFrame (v.setLoop
          { s.loop with
            state := .training, rate := .r1, lost := 0, trainingTimer := some (v.timebase + 50000), retrainTimer := none,
            rateSwitched := false, agreed := none })))))) ∧
  ∀ (reason : LoopReason) (s : State),
    (adminWait s = some .loopStart → failLoopStart reason s = endAdmin .loopNotRunning (some reason.code) s) ∧
    (adminWait s ≠ some .loopStart → failLoopStart reason s = s)

/-- A break of the loop empties the window and the deferral table, whatever stood in them: every tag FREE, no claim and no
backoff, every entry FREE, no operation kept at a node, and the loop BROKEN with an empty transit list (R21, R39, R64, R80).
Whom a loop that goes down reaches, and with what. At a stop every claim and every operation in BACKOFF leaves its queue and
ends LOOP_DOWN (R63). At a break the census is abandoned, then every transaction leaves its tag, its reservation FREE, and ends
LOOP_DOWN with every claim and backoff (R32, R64), then every deferral entry is FREE, a WAITING one's owner faulting LOOP_DOWN
(R80), then each job paused in an AWAIT or a DELAY faults LOOP_DOWN (R92, R119); OFF reaches the last two alike (R79, R92). An
abandoned census leaves no CENSUS claim or backoff, and a CENSUS command that waits for it ends LOOP_DOWN with the number of
addresses finished (R32, R154). The order, by tag, class, deferral id and context, is the model's choice (assumption 14), and
so is that a withdrawn operation which a break reaches ends LOOP_DOWN too (assumption 21). What LOOP_DOWN does to each owner is
stated in LostSendingByLoopState. -/
def Obligations.BreakEmptiesWindowAndTable : Prop :=
  (∀ (reason : LoopReason) (s : State), let t := loopBreak reason s
     t.loop.state = .broken ∧ t.loop.transit = [] ∧ t.loop.sending = none ∧ t.loop.lost = 0 ∧
     (∀ g, t.tag g = none) ∧ t.window.claimsS = [] ∧ t.window.claimsI = [] ∧ t.window.claimsJ = [] ∧
     t.window.backoff = [] ∧ (∀ d, t.entry d = .free) ∧ (∀ n, (t.node n).outstanding = 0) ∧
     t.window.doubt = s.window.doubt ∧ t.window.turn = s.window.turn ∧ ∀ n, (t.node n).seq = (s.node n).seq) ∧
  let queued (w : Window) : List Operation := w.claimsS ++ w.claimsI ++ w.claimsJ ++ w.backoff.map Prod.fst
  let lost (v : State) (op : Operation) : State := ownerEnds op 0 false .loopDown v
  let told (c : CtxId) (v : State) : State := endStep c (.fault .loopDown) (outcomeTaken c v)
  (∀ s : State,
     endQueued s = (queued s.window).foldl lost
       (s.setWindow { s.window with claimsS := [], claimsI := [], claimsJ := [], backoff := [] }) ∧
     tellBroken s = jobsLoopDown (tableLoopDown (emptyWindow (abandonCensus s))) ∧
     (let held := (List.finRange 8).filterMap s.tag
      let freed := held.foldl (fun (v : State) tr => match tr.reservation with
        | some d => v.setEntry d .free
        | none => v)
        (s.setWindow { s.window with
          tags := Vector.replicate 8 none, claimsS := [], claimsI := [], claimsJ := [], backoff := [] })
      emptyWindow s = (queued s.window).foldl lost (held.foldl (fun v tr =>
        ownerEnds tr.operation ((tr.frame.data.getD 0 0).setWidth 8) tr.withdrawn .loopDown v) freed)) ∧
     (let freed := (List.finRange 16).foldl (fun (v : State) d =>
        let free (n : NodeId) : State :=
          (v.setEntry d .free).setNode n { v.node n with outstanding := (v.node n).outstanding - 1 }
        match v.entry d with
        | .waiting c n _ _ _ => if (v.ctx c).state.hasOperation then told c (free n) else free n
        | .orphaned n _ _ | .cancelling n _ _ => free n
        | .reserved .. | .free => v.setEntry d .free) s
      tableLoopDown s = freed.setNodes
        { freed.nodes with records := freed.nodes.records.map fun r => { r with outstanding := 0 } }) ∧
     jobsLoopDown s = (List.finRange 16).foldl (fun (v : State) c => match (v.ctx c).state, (v.ctx c).pause with
       | .paused, some (.delay _) | .paused, some (.await _) => told c v
       | _, _ => v) s) ∧
  (∀ s : State, s.nodes.census = none → abandonCensus s = s) ∧
  ∀ (run : CensusRun) (s : State), s.nodes.census = some run →
    let kept (op : Operation) : Bool := match op.owner with
      | .census _ => false
      | _ => true
    let v := (s.setNodes { s.nodes with census := none }).setWindow { s.window with
      claimsS := s.window.claimsS.filter kept, claimsI := s.window.claimsI.filter kept
      claimsJ := s.window.claimsJ.filter kept, backoff := s.window.backoff.filter fun o => kept o.1 }
    (run.byCommand = true → adminWait s = some .census → abandonCensus s = endAdmin .loopDown (some run.ended) v) ∧
    (¬ (run.byCommand = true ∧ adminWait s = some .census) → abandonCensus s = v)

/-- The tag arbiter gives the oldest grantable class S claim the lowest-numbered FREE tag whose pair with its node is not
doubtful, or, when every FREE tag is doubtful for it, the lowest-numbered FREE tag, on which a sequence probe goes first but
for a CENSUS and for a NODE RESET of a SILENT node (R45, R47). With no class S claim grantable, it takes the oldest grantable
one of classes I and J, of the one the turn names when both have one; the turn then names the other (R46, R47). With no
grantable claim, or no FREE tag, nothing is granted (R47). A claim is grantable by its loop state and the NODE RESET
conditions of R47. Claims that one event makes join in increasing node address, a node's QUERY before its COLLECT (R46). A
claim whose node's state no longer allows its kind ends by that state (R48). The transaction granted is HELD with the pair's
sequence bit; its own frame is that of its owner's kind: a COMMAND's point, operation, count, data, may-defer and deferral id,
zero words for a QUERY, a COLLECT and a CENSUS, the desired mask, a CANCEL's id (R50 to R52). A ring job that allows it
reserves the lowest FREE entry whose id is not held over, below 4 deferred and reserved operations of the node (R51, R67), and
is ISSUED. A probe answered DONE or REFUSED is followed by the owner's frame with the toggled bit; UNTOUCHED ends the
operation, BUSY counts for it (R45, R57); in STOPPING it ends LOOP_DOWN, withdrawn "not performed" (R59, R63). The model's
choices: the withdrawal before STOPPING and the busy limit (assumption 16), the node check after the probe (assumption 20), a
COLLECT's BUSY (assumption 36), the data as they stand after the probe (assumption 37), 0 in the fields a kind does not use
(assumption 15). -/
def Obligations.ArbiterChoosesClaimAndTag : Prop :=
  ((∀ (op : Operation) (before after : List Operation) (t : Tag) (s : State),
      s.window.claimsS = before ++ op :: after → (∀ o ∈ before, grantable s o = false) → grantable s op = true →
      s.tag t = none → stateAllows (kindOf op.owner) (s.node op.node).state = true →
      let fresh := s.doubtful op.node t = false ∧
        ∀ t' : Tag, t'.val < t.val → s.tag t' = none → s.doubtful op.node t' = true
      let doubted := (∀ t' : Tag, s.tag t' = none → s.doubtful op.node t' = true ∧ t.val ≤ t'.val)
      (fresh ∨ doubted) →
      ∃ (u : State) (tr : Transaction), grantOne s = some u ∧
        u = holdTag op t (s.setWindow { s.window with claimsS := before ++ after }) ∧ u.tag t = some tr ∧
        tr.operation = op ∧ tr.retry = false ∧ tr.crc = 0 ∧ tr.withdrawn = false ∧
        tr.seq = (s.node op.node).seq.getLsbD t.val ∧ (∀ t', t' ≠ t → u.tag t' = s.tag t') ∧
        (fresh → tr.probe = false) ∧
        (doubted →
          ((∃ n, op.owner = .census n) ∨ (∃ n, op.owner = .nodeReset n ∧ (s.node n).state = .silent) → tr.probe = false) ∧
          ((∀ n, op.owner ≠ .census n) → (∀ n, op.owner = .nodeReset n → (s.node n).state = .present) →
            tr.probe = true ∧ tr.frame =
              { kind := .command, tag := t, retry := false, seq := tr.seq, mayDefer := false, addr := op.node.val + 1,
                point := 0, op := some .test, count := 0, deferId := 0, data := [] }))) ∧
   ∀ s : State, (∀ op ∈ s.window.claimsS, grantable s op = false) →
     let idle (q : List Operation) : Prop := ∀ op ∈ q, grantable s op = false
     let oldest (q : List Operation) (op : Operation) (rest : List Operation) : Prop :=
       ∃ before after, q = before ++ op :: after ∧ rest = before ++ after ∧ idle before ∧ grantable s op = true
     (idle s.window.claimsI → idle s.window.claimsJ → grantOne s = none) ∧
     (∀ i rest, oldest s.window.claimsI i rest → idle s.window.claimsJ ∨ s.window.turn = .classI →
       chooseClaim s = some (i, { s.window with claimsI := rest, turn := .classJ })) ∧
     ∀ j rest, oldest s.window.claimsJ j rest → (idle s.window.claimsI ∨ s.window.turn = .classJ) →
       chooseClaim s = some (j, { s.window with claimsJ := rest, turn := .classI })) ∧
  ((∀ (op : Operation) (s : State), grantable s op = true ↔
      (s.loop.state = .running ∨ s.loop.state = .census ∧ ∃ n, op.owner = .census n) ∧
      ((∀ n, op.owner ≠ .nodeReset n) → operationExists s (fun o => decide (o.owner = .nodeReset op.node)) = false) ∧
      ∀ n, op.owner = .nodeReset n → (∀ t tr, s.tag t = some tr → tr.operation.node ≠ n) ∧
        ¬ ((s.node n).state = .silent ∧ (∀ t, s.tag t = none → s.doubtful n t = true) ∧ ∃ t, s.doubtful n t = false)) ∧
   (∀ (op : Operation) (before after : List Operation) (s : State), s.window.claimsS = before ++ op :: after →
      (∀ o ∈ before, grantable s o = false) → grantable s op = true →
      chooseClaim s = some (op, { s.window with claimsS := before ++ after })) ∧
   (∀ s : State, (∀ t, s.tag t ≠ none) → grantOne s = none) ∧
   (∀ old new : List Operation, (∀ o ∈ old, o.fresh = false) → (∀ o ∈ new, o.fresh = true) →
      ∃ placed, orderQueue (old ++ new) = old ++ placed ∧ placed.Perm (new.map fun o => { o with fresh := false }) ∧
        placed.Pairwise fun a b => a.node.val ≤ b.node.val ∧
          (a.node = b.node → ∀ m n, ¬ (a.owner = .collect m ∧ b.owner = .query n))) ∧
   ∀ s : State, let w := s.window
     let fresh : Prop := ∃ o, (o ∈ w.claimsS ∨ o ∈ w.claimsI ∨ o ∈ w.claimsJ) ∧ o.fresh = true
     (fresh → orderClaims s = some (s.setWindow
       { w with claimsS := orderQueue w.claimsS, claimsI := orderQueue w.claimsI, claimsJ := orderQueue w.claimsJ })) ∧
     (¬ fresh → orderClaims s = none)) ∧
  let own (s : State) (op : Operation) (t : Tag) (seq : Bool) (reservation : Option DeferId) : Frame :=
    let f : Frame := { kind := kindOf op.owner, tag := t, retry := false, seq, addr := op.node.val + 1 }
    match op.owner, op.command with
    | .context c, some p =>
      { f with
        point := p.point, op := some p.op, count := p.count, mayDefer := reservation.isSome
        deferId := match reservation with
          | some d => d.val
          | none => 0
        data := match p.op, p.immediate with
          | .read, _ => List.replicate p.count 0
          | .write, some w => [w]
          | .write, none => (s.ctx c).staging
          | .pulse, _ | .test, _ => [] }
    | .query _, _ => { f with data := [0] }
    | .mask n, _ => { f with data := [(desiredMask s.attention.table n).setWidth 32] }
    | .collect _, _ => { f with data := List.replicate 16 0 }
    | .cancel d, _ => { f with deferId := d.val }
    | .census _, _ => { f with data := List.replicate 3 0 }
    | .nodeReset _, _ | .context _, none => f
  let allowed (op : Operation) (s : State) : Prop := (∃ n, op.owner = .census n) ∨ (s.node op.node).state = .present ∨
    (∃ n, op.owner = .nodeReset n) ∧ (s.node op.node).state = .silent
  (∀ (op : Operation) (w : Window) (t : Tag) (s : State), chooseClaim s = some (op, w) → s.tag t = none →
     ((s.doubtful op.node t = false ∧ ∀ t' : Tag, t'.val < t.val → s.tag t' = none → s.doubtful op.node t' = true) ∨
       ∀ t' : Tag, s.tag t' = none → s.doubtful op.node t' = true ∧ t.val ≤ t'.val) →
     (allowed op s → grantOne s = some (holdTag op t (s.setWindow w))) ∧
     (¬ allowed op s → grantOne s = some (ownerEnds op 0 false .nodeState (s.setWindow w)))) ∧
  (∀ (op : Operation) (t : Tag) (s : State), let n := op.node
     let seq := (s.node n).seq.getLsbD t.val
     let probe : Bool := s.doubtful n t && match op.owner with
       | .census _ => false
       | .nodeReset m => (s.node m).state == .present
       | _ => true
     let held (r : Option DeferId) (v : State) : State :=
       let f := if probe then { kind := .command, tag := t, seq, addr := n.val + 1, op := some .test } else own s op t seq r
       handFrame f (v.setTag t (some
         { operation := op, seq, retry := false, crc := 0, reservation := r, probe, withdrawn := false, afterLost := false,
           frame := f }))
     ((∀ c, op.owner ≠ .context c) → holdTag op t s = held none s) ∧
     ∀ (c : CtxId) (p : CommandPart), op.owner = .context c → op.command = some p →
       let issued (v : State) : State := v.setCtx c { s.ctx c with state := .issued }
       let reserved := (List.finRange 16).countP fun d => match s.entry d with
         | .reserved _ m _ _ _ => m == n
         | _ => false
       let may := c.val < 12 ∧ (s.ctx c).allowDefer = true ∧ (s.node n).outstanding + reserved < 4
       let free (d : DeferId) : Prop := s.entry d = .free ∧ (s.heldOver n).getLsbD d.val = false
       (∀ d, may → free d → (∀ e : DeferId, e.val < d.val → ¬ free e) →
         holdTag op t s = issued (held (some d) (s.setEntry d (.reserved c n p.op p.count none)))) ∧
       (¬ (may ∧ ∃ d, free d) → holdTag op t s = issued (held none s))) ∧
  ∀ (t : Tag) (tr : Transaction) (f : Frame) (s : State), tr.probe = true → f.delivered = 0 →
    f.status = .done ∨ f.status = .refused ∨ f.status = .untouched ∨ f.status = .busy →
    let op := tr.operation
    let v := countReturn op.node (f.status == .untouched) (settlePair .command op.node t f.status s)
    (f.status ≠ .busy → tr.withdrawn = true → goodReturn t tr f s = endTransaction t tr .notPerformed v) ∧
    (f.status = .untouched → tr.withdrawn = false → goodReturn t tr f s = endTransaction t tr (.good f) v) ∧
    (f.status = .done ∨ f.status = .refused → tr.withdrawn = false →
      (s.loop.state = .stopping → goodReturn t tr f s = endTransaction t tr .loopDown v) ∧
      (s.loop.state ≠ .stopping → ¬ allowed op s → goodReturn t tr f s = endTransaction t tr .nodeState v) ∧
      (s.loop.state ≠ .stopping → allowed op s →
        let seq := !(s.node op.node).seq.getLsbD t.val
        let g := own s op t seq tr.reservation
        goodReturn t tr f s = handFrame g (v.setTag t (some
          { tr with seq, retry := false, crc := 0, probe := false, afterLost := false, frame := g })))) ∧
    (f.status = .busy → let raised := { op with busy := op.busy + 1 }
      (tr.withdrawn = true → goodReturn t tr f s = endTransaction t tr .notPerformed v) ∧
      (tr.withdrawn = false → s.loop.state = .stopping → goodReturn t tr f s = endTransaction t tr .loopDown v) ∧
      (tr.withdrawn = false → s.loop.state ≠ .stopping → s.params.busyLimit ≤ raised.busy →
        goodReturn t tr f s = endTransaction t tr .busyLimit v) ∧
      (tr.withdrawn = false → s.loop.state ≠ .stopping → raised.busy < s.params.busyLimit →
        let w := match tr.reservation with
          | some d => (v.setTag t none).setEntry d .free
          | none => v.setTag t none
        let u := w.setWindow { w.window with
          backoff := w.window.backoff ++ [(raised, s.timebase + s.params.busyBackoff)] }
        ((∀ c, op.owner ≠ .context c) → goodReturn t tr f s = u) ∧
        ∀ c, op.owner = .context c → (s.ctx c).state = .issued → goodReturn t tr f s = u.setCtx c
          { s.ctx c with state := .paused, pause := some .busy, deferredOp := none }))

/-- The pair's sequence bit after a final good return: it toggles exactly for the statuses of R43's table, and no other bit of
any node changes; with the toggle the pair's doubt clears, and with a NODE RESET's DONE all the node's (R43, R44, R45). The
silence count: an UNTOUCHED return of any kind but CENSUS to a PRESENT node raises it, and at the threshold the node is SILENT
with its notice; any other status sets it to 0; a CENSUS, and a node that is not PRESENT, are not counted (R33, R34). A node
that leaves PRESENT: its ORPHANED and CANCELLING entries are FREE with their ids held over and its outstanding count falls by
them; the QUERY and MASK claims and backoffs for it, and those of the CANCEL of such an entry, are gone, and a CANCEL that
holds a tag is withdrawn (R26, R77, R178). That nothing else changes then, a waiting COLLECT of the node and its backoff among
it, is the model's choice (assumption 26). -/
def Obligations.GoodReturnSettlesPairAndSilence : Prop :=
  ((∀ (kind : FrameKind) (n m : NodeId) (t g : Tag) (status : ReplyStatus) (s : State),
      let toggles : Bool := match kind with
        | .collect => status != .untouched
        | .command => status == .done || status == .deferred || status == .refused
        | .cancel => status == .done || status == .unknown
        | _ => status == .done || status == .refused
      let u := settlePair kind n t status s
      (u.node m).seq.getLsbD g.val = ((s.node m).seq.getLsbD g.val != (m == n && g == t && toggles)) ∧
      u.doubtful m g = (s.doubtful m g && !(m == n && (g == t && toggles || kind == .nodeReset && status == .done)))) ∧
   (∀ (kind : FrameKind) (n : NodeId) (status : ReplyStatus) (s : State),
      countKind .census n status s = s ∧
      (kind ≠ .census → countKind kind n status s = countReturn n (decide (status = .untouched)) s)) ∧
   (∀ (n : NodeId) (s : State),
      ((s.node n).state ≠ .present → ∀ b, countReturn n b s = s) ∧
      ((s.node n).state = .present →
        countReturn n false s = s.setNode n { s.node n with untouched := 0 } ∧
        ((s.node n).untouched + 1 < s.params.silence →
          countReturn n true s = s.setNode n { s.node n with untouched := (s.node n).untouched + 1 }) ∧
        (s.params.silence ≤ (s.node n).untouched + 1 →
          countReturn n true s = nodeLeft n (notify (.node n) (.node .silent .silence 0)
            (s.setNode n { s.node n with untouched := (s.node n).untouched + 1, state := .silent })))))) ∧
  ∀ (n : NodeId) (s : State), let u := nodeLeft n s
    let cancelled (d : DeferId) : Bool := match s.entry d with
      | .cancelling m _ _ => m == n
      | _ => false
    let gone (d : DeferId) : Bool := cancelled d || match s.entry d with
      | .orphaned m _ _ => m == n
      | _ => false
    let dropped (o : Operation) : Bool := match o.owner with
      | .query m | .mask m => m == n
      | .cancel d => cancelled d
      | _ => false
    (∀ d, u.entry d = if gone d then .free else s.entry d) ∧
    (∀ m (d : DeferId), (u.heldOver m).getLsbD d.val = ((s.heldOver m).getLsbD d.val || m == n && gone d)) ∧
    (∀ m, u.node m = if m = n then { s.node n with outstanding := (s.node n).outstanding - (List.finRange 16).countP gone }
      else s.node m) ∧
    u.window = { s.window with
      tags := u.window.tags
      claimsS := s.window.claimsS.filter fun o => !dropped o
      claimsI := s.window.claimsI.filter fun o => !dropped o
      claimsJ := s.window.claimsJ.filter fun o => !dropped o
      backoff := s.window.backoff.filter fun o => !dropped o.1 } ∧
    (∀ t, u.tag t = (s.tag t).map fun tr => match tr.operation.owner with
      | .cancel d => if cancelled d then { tr with withdrawn := true } else tr
      | _ => tr) ∧
    u = { s with
      deferral := u.deferral, window := u.window, nodes := { s.nodes with records := u.nodes.records } }

/-- A reported source set, one source after another in increasing order; the unclaimed ones, of no entry or of a DISARMED one,
bring one node notice and mark the node mask-dirty (R170, R171). That the notices of the entries fired without a list stand in
that order, and the node's notice behind them, is the model's choice (assumption 14). A source, by its entry: a DISARMED one is
left, an ARMED one fires into the pending attention queue or, without a list, into POSTING, a busy REPEAT one keeps the re-raise,
a busy SINGLE one is left (R170, R172, R174). The end of its posting: SINGLE is DISARMED and reported for the node's mask, REPEAT
is ARMED or, with its re-raise, fires again (R175). -/
def Obligations.AttentionEntryByState : Prop :=
  (∀ (n : NodeId) (set : Byte) (s : State), ∃ lost : Byte,
     (∀ i : Source, lost.getLsbD i.val = (set.getLsbD i.val && match s.attentionEntry ⟨n, i⟩ with
       | none => true
       | some e => e.state == .disarmed)) ∧
     let u := (List.finRange 8).foldl (fun s i => if set.getLsbD i.val then takeSource ⟨n, i⟩ s else s) s
     (lost = 0 → takeSourceSet n set s = u) ∧
     (lost ≠ 0 → takeSourceSet n set s = (notify (.node n) (.node (s.node n).state .unclaimedAttention lost) u).setNode n
       { s.node n with dirty := true })) ∧
  (∀ (key : Key) (s : State), s.attentionEntry key = none → takeSource key s = s) ∧
  ∀ (key : Key) (e : AttentionEntry) (s : State), s.attentionEntry key = some e →
    let fired (s : State) : State :=
      if e.list = none then
        notify (.attention key) (.attention .none e.cookie none none [])
          (s.modAttention key fun e => { e with state := .posting, lastOutcome := some .none })
      else
        let s := s.modAttention key fun e => { e with state := .pending }
        s.setAttention { s.attention with queue := s.attention.queue ++ [key] }
    (e.state = .disarmed → takeSource key s = s) ∧
    (e.state = .armed → takeSource key s = fired s) ∧
    (e.state ≠ .disarmed → e.state ≠ .armed →
      (e.kind = .single → takeSource key s = s) ∧
      (e.kind = .repeat → takeSource key s = s.modAttention key fun e => { e with reraise := true })) ∧
    (e.kind = .single → postingEnds key s =
      desiredChanged key.node (s.modAttention key fun e => { e with state := .disarmed, reraise := false })) ∧
    (e.kind = .repeat → e.reraise = false → postingEnds key s = s.modAttention key fun e => { e with state := .armed }) ∧
    (e.kind = .repeat → e.reraise = true →
      postingEnds key s = fired (s.modAttention key fun e => { e with reraise := false }))

/-! ### Timers -/

/-- A deferral deadline: the owner's step faults DEFER_EXPIRED, and the entry is orphaned by the conditions of that instant:
CANCELLING with a CANCEL claim, ORPHANED, or FREE with its id held over (R69, R74). A job deadline reaches the job, an AWAIT
interval's end claims the next TEST, or faults NODE_SILENT or NODE_ABSENT when the node is not PRESENT and LOOP_DOWN when the
loop is not RUNNING (R46, R85, R89), and a DELAY's end completes its step (R92, R113, R116). That each of the four expiries
brings the timebase to its timer's instant is the model's choice (assumptions 2 and 34). -/
def Obligations.ContextAndDeferralTimers : Prop :=
  (∀ (d : DeferId) (c : CtxId) (n : NodeId) (op : CommandOp) (count : Nat) (due : Instant) (s : State),
     s.entry d = .waiting c n op count due →
     exec (.deferDeadlineExpiry d) s
       = .next (react (orphanEntry d (deliver c (.fault .deferExpired) (reachInstant due s)))) ∧
     ((s.node n).state = .present → s.loop.state = .running →
       orphanEntry d s = pushClaim { owner := .cancel d, node := n } (s.setEntry d (.cancelling n op count))) ∧
     ((s.node n).state = .present → s.loop.state ≠ .running →
       orphanEntry d s = s.setEntry d (.orphaned n op count)) ∧
     ((s.node n).state ≠ .present →
       (orphanEntry d s).entry d = .free ∧ ((orphanEntry d s).heldOver n).getLsbD d.val = true ∧
       ((orphanEntry d s).node n).outstanding = (s.node n).outstanding - 1)) ∧
  (∀ (c : CtxId) (due : Instant) (s : State), let v := reachInstant due s
     ((s.ctx c).deadline = some due →
       exec (.jobDeadlineExpiry c) s = .next (react (reachJob c .deadline v))) ∧
     ((s.ctx c).pause = some (.delay due) → exec (.delayExpiry c) s = .next (react
       (endStep c .completed (v.modCtx c fun x => { x with state := .ready, pause := none })))) ∧
     ∀ (p : Step) (n : NodeId), (s.ctx c).pause = some (.await due) → currentStep s c = some p → p.kind = .await →
       nodeAt? p.node = some n →
       let ready := v.modCtx c fun x => { x with state := .ready, pause := none }
       let ends (cause : Cause) : Prop :=
         exec (.awaitIntervalExpiry c) s = .next (react (endStep c (.fault cause) ready))
       ((s.node n).state = .silent → ends .nodeSilent) ∧
       ((s.node n).state = .absent ∨ (s.node n).state = .incompatible → ends .nodeAbsent) ∧
       ((s.node n).state = .present →
         (s.loop.state ≠ .running → ends .loopDown) ∧
         (s.loop.state = .running → exec (.awaitIntervalExpiry c) s = .next (react (pushClaim
           { owner := .context c, node := n,
             command := some { op := .test, point := p.point, count := 0, immediate := none } } ready)))))

/-- A period expiry: the grid advances by one period, the sequence number rises, and the slot's state decides between a run, a
missed period, and WAITING_LOOP with its notice; at the largest sequence number it suspends the slot (R182, R183, R185, R188,
R190). That the expiry brings the timebase to the slot's next due instant is assumptions 2 and 34 (DESIGN CHOICE), and that one
of an IDLE slot changes nothing is assumption 7 (DEDUCED). An internal run is handed over: the context is READY with the LOADED
list from step 0, its owner recorded, and the first step begins (R122, R123). In RUNNING the key at the head of the pending
attention queue goes to the lowest-numbered FREE internal context, its entry RUNNING; with no key, no FREE context or no
RUNNING loop nothing is handed over (R122, R173). -/
def Obligations.PeriodExpiryByState : Prop :=
  (∀ (k : SlotId) (s : State), let x := s.slot k
     let v := reachInstant x.nextDue s
     let due := x.nextDue + 100 * x.period
     let missed := if x.missed < 0xFFFFFFFF then x.missed + 1 else x.missed
     (x.state = .idle → exec (.periodExpiry k) s = .next s) ∧
     (x.sequence ≠ 0xFFFFFFFF →
       (∀ c : CtxId, x.state = .active → s.loop.state = .running → x.run = none → 12 ≤ c.val → (s.ctx c).state = .free →
         (∀ d : CtxId, 12 ≤ d.val → d.val < c.val → (s.ctx d).state ≠ .free) →
         exec (.periodExpiry k) s = .next (react (startRun c (.slot k) x.list (v.setSlot k
           { x with
             nextDue := due, sequence := x.sequence + 1
             run := some { sequence := x.sequence + 1, start := v.timebase, ctx := c } })))) ∧
       (x.state = .active → s.loop.state = .running →
         (x.run ≠ none ∨ ∀ c : CtxId, 12 ≤ c.val → (s.ctx c).state ≠ .free) →
         exec (.periodExpiry k) s
           = .next (react (v.setSlot k { x with nextDue := due, sequence := x.sequence + 1, missed }))) ∧
       (x.state = .waitingLoop ∨ x.state = .suspended →
         exec (.periodExpiry k) s
           = .next (react (v.setSlot k { x with nextDue := due, sequence := x.sequence + 1, missed }))) ∧
       (x.state = .active → s.loop.state ≠ .running →
         exec (.periodExpiry k) s = .next (react
           (notify (.slot k) (.slot .waitingLoop .loopDown (x.sequence + 1) missed) (v.setSlot k
             { x with state := .waitingLoop, nextDue := due, sequence := x.sequence + 1, missed }))))) ∧
     (x.sequence = 0xFFFFFFFF →
       (x.state = .active ∨ x.state = .waitingLoop →
         exec (.periodExpiry k) s = .next (react
           (notify (.slot k) (.slot .suspended .sequenceExhausted x.sequence missed)
             (v.setSlot k { x with state := .suspended, nextDue := due, missed })))) ∧
       (x.state = .suspended →
         exec (.periodExpiry k) s = .next (react (v.setSlot k { x with nextDue := due, missed }))))) ∧
  (∀ (c : CtxId) (owner : RunOwner) (l : ListId) (s : State), ∀ steps words out refs,
     s.stored l = .loaded steps words out refs → startRun c owner l s = runList c (s.setCtx c
       { state := .ready, list := .stored l, stepCount := steps.length, runOwner := some owner })) ∧
  ∀ s : State, let q := s.attention.queue
    (q = [] ∨ s.loop.state ≠ .running ∨ (∀ c : CtxId, 12 ≤ c.val → (s.ctx c).state ≠ .free) → settleAttention s = none) ∧
    ∀ (key : Key) (rest : List Key) (e : AttentionEntry) (l : ListId) (c : CtxId), q = key :: rest →
      s.attentionEntry key = some e → e.list = some l → s.loop.state = .running → 12 ≤ c.val → (s.ctx c).state = .free →
      (∀ d : CtxId, 12 ≤ d.val → d.val < c.val → (s.ctx d).state ≠ .free) →
      settleAttention s = some (startRun c (.attention key) l (s.setAttention
        { queue := rest
          table := s.attention.table.map fun e => if e.key = key then { e with state := .running } else e }))

/-! ### Records written -/

/-- An event record written: the ring advances with its phase, moderation counts the record, and the notice leaves the queue,
its attention entry going on, or moves to the tail when it was refreshed meanwhile. An event record write that fails: the ring
is FAULTED, EVENT FAULT is set, the indices stay, moderation clears without a message, and the notice keeps the head place with
its held-change flag clear (R125, R134, R136, R175, R194). Either way a SET EVENT RING that waited for the write then sets the
new ring, clears EVENT FAULT and ends OK (R136, R151). A notice handed over: with none for its subject queued it joins the tail
with the present instant; a queued one is refreshed in its place with the new content and instant, two unclaimed attention
notices uniting their source sets, and the one at the head is marked with the held-change flag while its record is being
written (R193, R194). A record's write begins, with the notice at the head, when the event ring is ACTIVE, not full and has no
write in progress, at its base plus 32 bytes for each index, word 0 last (R125, R136, R194); that this address is taken modulo
2^64 is the model's choice (assumption 35). The record's bytes by kind, and the codes that stand in it (R195, R196, R199):
every byte not assigned is 0. -/
def Obligations.EventRecordWriteEnds : Prop :=
  (let resumed (u : State) : State := match adminWait u with
     | some (.eventWrite v count size time base) => endAdmin .ok none
         ((u.setEventRing
           { state := .active, base, size, producer := 0, consumer := 0, phase := true, vector := v,
             moderation := { count, time, unsignalled := 0, timer := none }, writing := none }).setRegs
           { u.regs with eventFault := false })
     | _ => u
   (∀ (n : Notice) (rest : List Notice) (s : State), let r := s.rings.event
      r.writing ≠ none → s.notices = n :: rest →
      let wraps := r.producer + 1 = r.size
      let m := r.moderation
      let sends := m.unsignalled + 1 = m.count ∨ m.time = 0
      let u := (if sends then sendMessage r.vector s else s).setEventRing
        { r with
          writing := none
          producer := if wraps then 0 else r.producer + 1
          phase := if wraps then !r.phase else r.phase
          moderation := if sends then { m with unsignalled := 0, timer := none }
            else { m with
              unsignalled := m.unsignalled + 1
              timer := if m.unsignalled = 0 ∧ 0 < m.time then some (s.timebase + m.time) else m.timer } }
      (n.heldChange = true →
        exec .eventRecordWritten s = .next (react (resumed (u.setNotices (rest ++ [{ n with heldChange := false }]))))) ∧
      (n.heldChange = false →
        (∀ key, n.subject = .attention key →
          exec .eventRecordWritten s = .next (react (resumed (postingEnds key (u.setNotices rest))))) ∧
        ((∀ key, n.subject ≠ .attention key) →
          exec .eventRecordWritten s = .next (react (resumed (u.setNotices rest)))))) ∧
   (∀ (n : Notice) (rest : List Notice) (s : State), s.rings.event.writing ≠ none → s.notices = n :: rest →
      exec .eventWriteError s = .next (react (resumed
        (((s.setEventRing
          { s.rings.event with
            state := .faulted, writing := none
            moderation := { s.rings.event.moderation with unsignalled := 0, timer := none } }).setRegs
          { s.regs with eventFault := true }).setNotices ({ n with heldChange := false } :: rest)))))) ∧
  (∀ (subject : Subject) (body : NoticeBody) (s : State),
     ((∀ n ∈ s.notices, n.subject ≠ subject) → notify subject body s = s.setNotices
       (s.notices ++ [{ subject, body, changed := s.timebase, heldChange := false }])) ∧
     ∀ (before after : List Notice) (n : Notice), s.notices = before ++ n :: after →
       (∀ m ∈ before, m.subject ≠ subject) → n.subject = subject →
       let put (b : NoticeBody) : State := s.setNotices (before ++
         { subject, body := b, changed := s.timebase,
           heldChange := n.heldChange || (before.isEmpty && s.rings.event.writing.isSome) } :: after)
       let both := (∃ st set, n.body = .node st .unclaimedAttention set) ∧ ∃ st set, body = .node st .unclaimedAttention set
       (¬ both → notify subject body s = put body) ∧
       ∀ st st' set set', n.body = .node st .unclaimedAttention set → body = .node st' .unclaimedAttention set' →
         notify subject body s = put (.node st' .unclaimedAttention (set ||| set'))) ∧
  (∀ s : State, let r := s.rings.event
     let ready := r.state = .active ∧ ¬ (r.size = 0 ∨ (r.producer + 1) % r.size = r.consumer) ∧ r.writing = none
     (s.notices = [] ∨ ¬ ready → settleEvent s = none) ∧
     ∀ n rest, s.notices = n :: rest → ready → settleEvent s = some (s.setEventRing { r with
       writing := some { addr := r.base + BitVec.ofNat 64 (32 * r.producer), bytes := eventBytes n r.phase,
                         lastWord := 0 } })) ∧
  (∀ (n : Notice) (phase : Bool), let b := eventBytes n phase
     let field := littleEndian b
     let head (kind reason state subject : Nat) : Prop :=
       field 0 1 = kind + 128 * phase.toNat ∧ field 1 1 = reason ∧ field 2 1 = state ∧ field 3 1 = subject
     b.length = 32 ∧ field 4 4 = n.changed % 2 ^ 32 ∧
     (∀ m state reason sources, n.subject = .node m → n.body = .node state reason sources →
       head 1 reason.code state.code (m.val + 1) ∧ field 8 1 = sources.toNat ∧ field 9 23 = 0) ∧
     (∀ state reason rate, n.subject = .loop → n.body = .loop state reason rate →
       head 2 reason.code state.code 0 ∧ field 8 1 = rate.code ∧ field 9 23 = 0) ∧
     (∀ k state reason sequence missed, n.subject = .slot k → n.body = .slot state reason sequence missed →
       head 3 reason.code state.code k.val ∧ field 8 4 = sequence % 2 ^ 32 ∧ field 12 4 = missed % 2 ^ 32 ∧
       field 16 16 = 0) ∧
     (∀ addr : Option Addr, n.body = .ring addr →
       (∀ r, n.subject = .subRing r → head 4 1 3 r.val) ∧ (∀ k, n.subject = .compRing k → head 4 2 3 k.val) ∧
       field 8 1 = addr.isSome.toNat ∧ field 9 7 = 0 ∧ field 16 8 = (addr.getD 0).toNat ∧ field 24 8 = 0) ∧
     ∀ key outcome cookie stopStep stopCause words, n.subject = .attention key →
       n.body = .attention outcome cookie stopStep stopCause words →
       head 5 key.source.val outcome.code (key.node.val + 1) ∧ field 8 1 = (stopCause.map Cause.code).getD 0 ∧
       field 9 1 = words.length % 256 ∧ field 10 2 = stopStep.getD 0xFFFF % 65536 ∧ field 12 4 = cookie.toNat ∧
       ∀ i, i < 4 → field (16 + 4 * i) 4 = (words.getD i 0).toNat) ∧
  [.off, .training, .census, .running, .broken, .stopping].map LoopState.code = [0, 1, 2, 3, 4, 5] ∧
  [.absent, .present, .silent, .incompatible].map NodeState.code = [1, 2, 3, 4] ∧
  [.idle, .active, .waitingLoop, .suspended].map SlotState.code = [0, 1, 2, 3] ∧
  [.disarmed, .armed, .pending, .running, .posting].map EntryState.code = [0, 1, 2, 3, 4] ∧
  [.ok, .stepFault, .loopDown, .none].map RunOutcome.code = [0, 1, 4, 9] ∧
  [.census, .silence, .identityChanged, .reset, .staleResult, .unclaimedAttention].map NodeReason.code
    = [1, 2, 3, 4, 5, 6] ∧
  [.trainingTimeout, .returnsLost, .signalLost, .running, .stopped, .fatal].map LoopReason.code = [1, 2, 3, 4, 5, 6] ∧
  [.loopDown, .loopRunning, .captureFull, .captureFault, .sequenceExhausted].map SlotReason.code = [1, 2, 3, 4, 5] ∧
  [.r1, .r2, .r3].map RateCode.code = [1, 2, 3]

/-- A completion record written: the ring advances with its phase, the record leaves the queue, moderation counts it, and its
source is told: the context of a job is FREE and its ring holds one job less, or no administrative command is in progress
(R120, R125, R126, R129, R131, R134). A record's write begins, with the head of the posting queue, when the ring is ACTIVE, not
full and has no write in progress, at its base plus 32 bytes for each index, the last word last (R125, R131); of several such
rings the lowest first is the model's choice (assumption 8), and so is that the address is taken modulo 2^64 (assumption 35).
The bytes of a job's and of an administrative record, and the codes that stand in them (R196, R198): every byte not assigned is
0. A number stands modulo the width of its field, which it exceeds only in states that no run reaches. -/
def Obligations.CompletionRecordWrittenReleases : Prop :=
  (∀ (k : RingId) (p : PostedRecord) (rest : List PostedRecord) (s : State), let r := s.compRing k
     r.writing ≠ none → r.queue = p :: rest →
     let wraps := r.producer + 1 = r.size
     let m := r.moderation
     let sends := m.unsignalled + 1 = m.count ∨ m.time = 0
     let v := (if sends then sendMessage r.vector s else s).setCompRing k
       { r with
         writing := none, queue := rest
         producer := if wraps then 0 else r.producer + 1
         phase := if wraps then !r.phase else r.phase
         moderation := if sends then { m with unsignalled := 0, timer := none }
           else { m with
             unsignalled := m.unsignalled + 1
             timer := if m.unsignalled = 0 ∧ 0 < m.time then some (s.timebase + m.time) else m.timer } }
     (∀ a, p = .admin a →
       exec (.completionRecordWritten k) s = .next (react (v.setAdmin { s.admin with job := none }))) ∧
     ∀ c j, p = .job c j → c.val < 12 →
       exec (.completionRecordWritten k) s = .next (react ((v.setCtx c {}).setSubRing (s.ctx c).sq
         { s.subRing (s.ctx c).sq with jobsHeld := (s.subRing (s.ctx c).sq).jobsHeld - 1 }))) ∧
  (∀ s : State,
     let ready (k : RingId) : Prop := let r := s.compRing k
       r.state = .active ∧ ¬ (r.size = 0 ∨ (r.producer + 1) % r.size = r.consumer) ∧ r.writing = none ∧ r.queue ≠ []
     ((∀ k, ¬ ready k) → settlePost s = none) ∧
     ∀ (k : RingId) (p : PostedRecord) (rest : List PostedRecord), let r := s.compRing k
       ready k → (∀ j : RingId, j.val < k.val → ¬ ready j) → r.queue = p :: rest →
       settlePost s = some (s.setCompRing k { r with
         writing := some { addr := r.base + BitVec.ofNat 64 (32 * r.producer), bytes := completionBytes p r.phase,
                           lastWord := 28 } })) ∧
  (∀ (c : CtxId) (r : JobRecord) (phase : Bool), let b := completionBytes (.job c r) phase
     let field := littleEndian b
     b.length = 32 ∧ field 0 2 = r.jobId.toNat ∧ field 2 1 = r.ring.val ∧ field 3 1 = r.outcome.code ∧
     field 4 2 = r.stepsDone % 65536 ∧ field 6 2 = r.stopStep.getD 0xFFFF % 65536 ∧
     field 8 1 = (r.stopCause.map Cause.code).getD 0 ∧ field 9 1 = 0 ∧ field 10 2 = r.continued % 65536 ∧
     field 12 2 = (r.firstContinued.map FirstFault.step).getD 0xFFFF % 65536 ∧
     field 14 1 = (r.firstContinued.map fun f => f.cause.code).getD 0 ∧
     field 15 1 = (r.firstContinued.map FirstFault.node).getD 0 % 256 ∧ field 16 4 = r.inBytes % 2 ^ 32 ∧
     field 20 4 = r.outBytes % 2 ^ 32 ∧ field 24 4 = r.endTime.toNat ∧
     field 28 1 = (r.firstContinued.map FirstFault.point).getD 0 % 256 ∧ field 29 2 = 0 ∧ field 31 1 = phase.toNat) ∧
  (∀ (a : AdminRecord) (phase : Bool), let b := completionBytes (.admin a) phase
     let field := littleEndian b
     b.length = 32 ∧ field 0 2 = a.tag.toNat ∧ field 2 1 = 0 ∧ field 3 1 = a.outcome.code ∧ field 4 5 = 0 ∧
     field 9 1 = a.code.toNat ∧ field 10 6 = 0 ∧ field 16 4 = a.detail.getD 0 % 2 ^ 32 ∧ field 20 4 = 0 ∧
     field 24 4 = a.endTime.toNat ∧ field 28 1 = 0 ∧ field 29 1 = a.detail.isSome.toNat ∧ field 30 1 = 0 ∧
     field 31 1 = phase.toNat) ∧
  ([.ok, .stepFault, .aborted, .deadline, .loopDown, .malformed, .listMissing, .bufferFault, .ringDeleted].map
     JobOutcome.code = [0, 1, 2, 3, 4, 5, 6, 7, 8]) ∧
  ([.ok, .loopDown, .malformed, .bufferFault, .inUse, .notFound, .noSpace, .loopNotRunning, .badState, .noTaker, .refused,
     .busyLimit, .corruptLimit].map AdminOutcome.code
     = [0, 4, 5, 7, 0x10, 0x11, 0x12, 0x13, 0x14, 0x21, 0x22, 0x24, 0x25]) ∧
  [.noTaker, .refused, .notValid, .busyLimit, .corruptLimit, .awaitExpired, .deferExpired, .shortBlock, .nodeSilent,
    .nodeAbsent, .nodeReset, .inBufferFull, .outBufferShort, .bufferFault, .loopDown].map Cause.code
    = [1, 2, 3, 4, 5, 6, 7, 8, 9, 10, 11, 12, 13, 14, 15]

/-- A write error on completion rings 1-7 makes the ring FAULTED, drops its queue and posts the ring notice, the indices and
phase kept; the source of each dropped record is told as for a written one (R133). On ring 0 it enters FATAL, whatever the
loop was doing: FATAL is set, the ring is FAULTED with its queue dropped and its ring notice posted, the loop is OFF with both
timers stopped and its notice posted behind, and whatever the window, the deferral table and the paused jobs held ends
LOOP_DOWN, so that the window and the table are empty (R16, R64, R80, R92, R138): tellBroken, which BreakEmptiesWindowAndTable
states, as SignalLossAndTrainingTimersMoveLoop states failLoopStart. A LOOP STOP that waits then ends OK, and a LOOP START
LOOP_NOT_RUNNING with reason fatal, their records dropped (R152, R153). That the lost count is 0 in FATAL is the model's
choice (assumption 31), and so are the order in which the jobs and commands end (assumption 14) and that a withdrawn operation
ends LOOP_DOWN too (assumption 21). -/
def Obligations.CompletionWriteErrorFaultsRing : Prop :=
  (∀ s : State, (∀ a, releaseSource (.admin a) s = s.setAdmin { s.admin with job := none }) ∧
     ∀ c j, c.val < 12 → releaseSource (.job c j) s = (s.setCtx c {}).setSubRing (s.ctx c).sq
       { s.subRing (s.ctx c).sq with jobsHeld := (s.subRing (s.ctx c).sq).jobsHeld - 1 }) ∧
  ∀ (k : RingId) (addr : Addr) (s : State), let r := s.compRing k
    r.writing ≠ none →
    (k ≠ 0 → exec (.completionWriteError k addr) s = .next (react
      (notify (.compRing k) (.ring (some addr)) (r.queue.foldl (fun s p => releaseSource p s)
        (s.setCompRing k
          { r with
            state := .faulted, queue := [], writing := none
            moderation := { r.moderation with unsignalled := 0, timer := none } }))))) ∧
    (k = 0 →
      let faulted := notify (.compRing 0) (.ring (some addr)) (r.queue.foldl (fun s p => releaseSource p s)
        ((s.setRegs { s.regs with fatal := true }).setCompRing 0
          { r with
            state := .faulted, queue := [], writing := none
            moderation := { r.moderation with unsignalled := 0, timer := none } }))
      let down := tellBroken (notify .loop (.loop .off .fatal s.loop.rate) (faulted.setLoop
        { s.loop with
          state := .off, sending := none, waiting := [], transit := [], lost := 0, trainingTimer := none,
          retrainTimer := none, agreed := none }))
      ∃ u, exec (.completionWriteError k addr) s = .next (react u) ∧
      (adminWait down = some .loopStop → u = endAdmin .ok none down) ∧
      (adminWait down ≠ some .loopStop → u = failLoopStart .fatal down) ∧
      u.regs = { s.regs with fatal := true } ∧ (u.compRing 0).state = .faulted ∧ (u.compRing 0).queue = [] ∧
      (u.compRing 0).writing = none ∧ u.loop.state = .off ∧ u.loop.transit = [] ∧ u.loop.trainingTimer = none ∧
      u.loop.retrainTimer = none ∧ (∀ g, u.tag g = none) ∧ u.window.claimsS = [] ∧ u.window.claimsI = [] ∧
      u.window.claimsJ = [] ∧ u.window.backoff = [] ∧ ∀ d, u.entry d = .free)

/-- A snapshot's write ends. Posted, the capture ring advances, one message goes out on the slot's vector and the missed count
falls by the snapshot's missed-before; on an error the snapshot is discarded and the missed count rises. With no SLOT STOP
waiting the slot goes on, and after an error an ACTIVE or WAITING_LOOP one is SUSPENDED with its notice (R125, R137, R187,
R190). With the stop-waiting flag set no notice is posted: the slot returns to IDLE, its capture ring 0 and its list's
reference released, and the SLOT STOP ends OK with the missed count as it then stands (R162, R181, R189). An internal run ends
(R123). An attention run: its entry goes to POSTING with the ATTENTION DONE notice of its outcome, stop and words (R173, R174).
A cyclic run: its snapshot is built with the run's sequence number and start, the present instant and the missed count, and
offered (R186): a capture ring that is not full begins its write at the base plus the snapshot size for each index, the
header's last word last (R125, R137); a full one discards it and the missed count rises, under SUSPEND with the slot SUSPENDED
and its notice, and with a SLOT STOP waiting the slot returns to IDLE and the command ends OK (R187, R189, R190). The bytes of
a snapshot: the header, the words from byte 32 on, and 0 to the snapshot size (R186, R196, R199). That the address is taken
modulo 2^64 is the model's choice (assumption 35). -/
def Obligations.SnapshotWriteEndSettlesSlot : Prop :=
  (∀ (k : SlotId) (run : RunRecord) (p : Snapshot) (s : State), let r := s.captureRing k
     let x := s.slot k
     r.writing ≠ none → x.run = some run → run.snapshot = some p →
     let wraps := r.producer + 1 = r.size
     let posted := (sendMessage x.vector s).setCaptureRing k
       { r with
         writing := none
         producer := if wraps then 0 else r.producer + 1
         phase := if wraps then !r.phase else r.phase }
     let failed := s.setCaptureRing k { r with writing := none }
     let up := if x.missed < 0xFFFFFFFF then x.missed + 1 else x.missed
     let stopped (v : State) : State := ((releaseReference x.list v).setSlot k { state := .idle }).setCaptureRing k {}
     (x.stopWaiting = false →
       exec (.snapshotWriteEnd k .ok) s
         = .next (react (posted.setSlot k { x with missed := x.missed - p.missedBefore, run := none })) ∧
       ∀ a : Addr,
         (x.state = .active ∨ x.state = .waitingLoop → exec (.snapshotWriteEnd k (.error a)) s = .next (react
           (notify (.slot k) (.slot .suspended .captureFault x.sequence up)
             (failed.setSlot k { x with missed := up, run := none, state := .suspended })))) ∧
         (x.state = .suspended → exec (.snapshotWriteEnd k (.error a)) s
           = .next (react (failed.setSlot k { x with missed := up, run := none })))) ∧
     (x.stopWaiting = true → adminWait s = some (.slotStop k) →
       exec (.snapshotWriteEnd k .ok) s
         = .next (react (endAdmin .ok (some (x.missed - p.missedBefore)) (stopped posted))) ∧
       ∀ a : Addr, exec (.snapshotWriteEnd k (.error a)) s = .next (react (endAdmin .ok (some up) (stopped failed))))) ∧
  (∀ (c : CtxId) (s : State), let x := s.ctx c
     12 ≤ c.val →
     let outcome : RunOutcome := match x.stopCause with
       | none => .ok
       | some .loopDown => .loopDown
       | some _ => .stepFault
     let v := s.setCtx c {}
     (∀ key e, x.runOwner = some (.attention key) → s.attentionEntry key = some e → endRun c s =
       notify (.attention key) (.attention outcome e.cookie x.stopStep x.stopCause x.words) (v.setAttention
         { s.attention with
           table := s.attention.table.map fun e =>
             if e.key = key then { e with state := .posting, lastOutcome := some outcome } else e })) ∧
     ∀ (k : SlotId) (run : RunRecord), x.runOwner = some (.slot k) → (s.slot k).run = some run →
       let y := s.slot k
       let r := s.captureRing k
       let p : Snapshot :=
         { slot := k, sequence := run.sequence, start := run.start, ended := s.timebase, missedBefore := y.missed, outcome
           stopStep := x.stopStep, stopCause := x.stopCause, continued := x.continued, words := x.words }
       let up := if y.missed < 0xFFFFFFFF then y.missed + 1 else y.missed
       let discarded : Slot := { y with missed := up, run := none }
       let full := r.size = 0 ∨ (r.producer + 1) % r.size = r.consumer
       (¬ full → endRun c s = (v.setSlot k { y with run := some { run with snapshot := some p } }).setCaptureRing k
         { r with writing := some { addr := r.base + BitVec.ofNat 64 (y.snapshotSize * r.producer),
                                    bytes := snapshotBytes p y.snapshotSize r.phase, lastWord := 28 } }) ∧
       (full → y.stopWaiting = false →
         (y.policy = .skip ∨ y.state = .suspended → endRun c s = v.setSlot k discarded) ∧
         (y.policy = .suspend → y.state = .active ∨ y.state = .waitingLoop → endRun c s =
           notify (.slot k) (.slot .suspended .captureFull y.sequence up)
             (v.setSlot k { discarded with state := .suspended }))) ∧
       (full → y.stopWaiting = true → adminWait s = some (.slotStop k) → endRun c s = endAdmin .ok (some up)
         (((releaseReference y.list v).setSlot k { state := .idle }).setCaptureRing k {}))) ∧
  ∀ (p : Snapshot) (size : Nat) (phase : Bool), 32 ≤ size →
    let b := snapshotBytes p size phase
    let field := littleEndian b
    b.length = size ∧ field 0 1 = p.slot.val ∧ field 1 1 = p.outcome.code ∧
    field 2 1 = (p.stopCause.map Cause.code).getD 0 ∧ field 3 1 = 0 ∧ field 4 4 = p.sequence % 2 ^ 32 ∧
    field 8 4 = p.start % 2 ^ 32 ∧ field 12 4 = p.ended % 2 ^ 32 ∧ field 16 4 = p.missedBefore % 2 ^ 32 ∧
    field 20 2 = p.stopStep.getD 0xFFFF % 65536 ∧ field 22 2 = p.continued % 65536 ∧
    field 24 2 = p.words.length % 65536 ∧ field 26 5 = 0 ∧ field 31 1 = phase.toNat ∧
    (∀ i w, p.words[i]? = some w → 36 + 4 * i ≤ size → field (32 + 4 * i) 4 = w.toNat) ∧
    ∀ i n, 32 + 4 * p.words.length ≤ i → field i n = 0

/-- The fetch arbiter's decision (R127). It is made when a ring context is FREE, no fetch read of the arbiter is in progress,
ENABLE is set and the part is not FATAL, and at least one ring of 1-7 is eligible: ACTIVE, not empty, its completion ring not
FAULTED. When no eligible ring has a credit, a new round first gives every ACTIVE ring its weight and every other ring 0. The
ring chosen is the first from the pointer, in ring order with 1 after 7, that is eligible with a credit; its credit falls by one
and every other ring keeps its own; the pointer names it while it has credit, and the ring after it otherwise; and the read of
the 64-byte entry at its consumer index begins (R124, R128). Nothing else changes. After each event the part takes the actions
of which this decision is one, each when its own rule enables it, until none is enabled: the entry to OFF (R23), a drained ring
(R130), an attention run (R122, R173), a MASK's claim (R37), the order of the claims (R46), a grant (R47), a completion and an
event record's write (R131, R194), the fetch and the admin unit's fetch (R127, R129). That they are taken in this order, the
first that is enabled each time, and 4096 at most after one event, is the model's choice (assumption 8). That an entry's address
is taken modulo 2^64 is the model's choice (assumption 35). -/
def Obligations.FetchDecisionSpendsCredit : Prop :=
  (∀ s : State, let g := s.rings
     let eligible (r : RingId) : Prop := 1 ≤ r.val ∧ (s.subRing r).state = .active ∧
       (s.subRing r).producer ≠ (s.subRing r).consumer ∧ (s.compRing (s.subRing r).cq).state ≠ .faulted
     let may := s.regs.enable = true ∧ s.regs.fatal = false ∧ g.fetch = none ∧
       ∃ c : CtxId, c.val < 12 ∧ (s.ctx c).state = .free
     1 ≤ g.pointer.val →
     ∃ credit : RingId → Nat,
       ((∃ r, eligible r ∧ 0 < vget g.credits r) → ∀ r, credit r = vget g.credits r) ∧
       ((∀ r, eligible r → vget g.credits r = 0) → ∀ r, 1 ≤ r.val →
         ((s.subRing r).state = .active → credit r = (s.subRing r).weight) ∧
         ((s.subRing r).state ≠ .active → credit r = 0)) ∧
       (¬ (may ∧ ∃ r, eligible r ∧ 0 < credit r) → settleFetch s = none) ∧
       (may → ∀ r : RingId, eligible r → 0 < credit r →
         (∀ q, eligible q → 0 < credit q → (r.val + 7 - g.pointer.val) % 7 ≤ (q.val + 7 - g.pointer.val) % 7) →
         ∃ credits : Vector Nat 8, vget credits r = credit r - 1 ∧
           (∀ q, 1 ≤ q.val → q ≠ r → vget credits q = credit q) ∧
           settleFetch s = some { s with rings := { g with
             credits
             pointer := if 1 < credit r then r else if r.val = 7 then 1 else r + 1
             fetch := some
               { ring := r, addr := (s.subRing r).base + BitVec.ofNat 64 (64 * (s.subRing r).consumer) } } })) ∧
  ∀ s : State,
    let actions : List (State → Option State) :=
      [settleOff, settleDrained, settleAttention, settleMask, orderClaims, grantOne, settlePost, settleEvent, settleFetch,
       settleAdminFetch]
    ∃ (n : Nat) (path : Nat → State), path 0 = s ∧ path n = react s ∧ n ≤ 4096 ∧
      (∀ i, i < n → ∃ (before after : List (State → Option State)) (action : State → Option State),
        actions = before ++ action :: after ∧ (∀ earlier ∈ before, earlier (path i) = none) ∧
        action (path i) = some (path (i + 1))) ∧
      ((∀ action ∈ actions, action (react s) = none) ∨ n = 4096)
end

