-- ==== Sys2Proof/Laws/State.lean ====
section
/-! SUPPORT. One lemma per field per update of the state, and reading an entry of a table after it has been replaced. -/

namespace Sys2Proof.Machine

/-! ### State.setRegs -/

section
variable (s : State) (x : Regs)
@[simp] theorem State.setRegs_regs : (s.setRegs x).regs = x := rfl
@[simp] theorem State.setRegs_params : (s.setRegs x).params = s.params := rfl
@[simp] theorem State.setRegs_timebase : (s.setRegs x).timebase = s.timebase := rfl
@[simp] theorem State.setRegs_host : (s.setRegs x).host = s.host := rfl
@[simp] theorem State.setRegs_rings : (s.setRegs x).rings = s.rings := rfl
@[simp] theorem State.setRegs_admin : (s.setRegs x).admin = s.admin := rfl
@[simp] theorem State.setRegs_jobs : (s.setRegs x).jobs = s.jobs := rfl
@[simp] theorem State.setRegs_handOver : (s.setRegs x).handOver = s.handOver := rfl
@[simp] theorem State.setRegs_lists : (s.setRegs x).lists = s.lists := rfl
@[simp] theorem State.setRegs_window : (s.setRegs x).window = s.window := rfl
@[simp] theorem State.setRegs_deferral : (s.setRegs x).deferral = s.deferral := rfl
@[simp] theorem State.setRegs_loop : (s.setRegs x).loop = s.loop := rfl
@[simp] theorem State.setRegs_nodes : (s.setRegs x).nodes = s.nodes := rfl
@[simp] theorem State.setRegs_queryRefused : (s.setRegs x).queryRefused = s.queryRefused := rfl
@[simp] theorem State.setRegs_attention : (s.setRegs x).attention = s.attention := rfl
@[simp] theorem State.setRegs_slots : (s.setRegs x).slots = s.slots := rfl
@[simp] theorem State.setRegs_notices : (s.setRegs x).notices = s.notices := rfl
@[simp] theorem State.setRegs_pending : (s.setRegs x).pending = s.pending := rfl
end

/-! ### State.setParams -/

section
variable (s : State) (x : Params)
@[simp] theorem State.setParams_regs : (s.setParams x).regs = s.regs := rfl
@[simp] theorem State.setParams_params : (s.setParams x).params = x := rfl
@[simp] theorem State.setParams_timebase : (s.setParams x).timebase = s.timebase := rfl
@[simp] theorem State.setParams_host : (s.setParams x).host = s.host := rfl
@[simp] theorem State.setParams_rings : (s.setParams x).rings = s.rings := rfl
@[simp] theorem State.setParams_admin : (s.setParams x).admin = s.admin := rfl
@[simp] theorem State.setParams_jobs : (s.setParams x).jobs = s.jobs := rfl
@[simp] theorem State.setParams_handOver : (s.setParams x).handOver = s.handOver := rfl
@[simp] theorem State.setParams_lists : (s.setParams x).lists = s.lists := rfl
@[simp] theorem State.setParams_window : (s.setParams x).window = s.window := rfl
@[simp] theorem State.setParams_deferral : (s.setParams x).deferral = s.deferral := rfl
@[simp] theorem State.setParams_loop : (s.setParams x).loop = s.loop := rfl
@[simp] theorem State.setParams_nodes : (s.setParams x).nodes = s.nodes := rfl
@[simp] theorem State.setParams_queryRefused : (s.setParams x).queryRefused = s.queryRefused := rfl
@[simp] theorem State.setParams_attention : (s.setParams x).attention = s.attention := rfl
@[simp] theorem State.setParams_slots : (s.setParams x).slots = s.slots := rfl
@[simp] theorem State.setParams_notices : (s.setParams x).notices = s.notices := rfl
@[simp] theorem State.setParams_pending : (s.setParams x).pending = s.pending := rfl
end

/-! ### State.setTimebase -/

section
variable (s : State) (x : Instant)
@[simp] theorem State.setTimebase_regs : (s.setTimebase x).regs = s.regs := rfl
@[simp] theorem State.setTimebase_params : (s.setTimebase x).params = s.params := rfl
@[simp] theorem State.setTimebase_timebase : (s.setTimebase x).timebase = x := rfl
@[simp] theorem State.setTimebase_host : (s.setTimebase x).host = s.host := rfl
@[simp] theorem State.setTimebase_rings : (s.setTimebase x).rings = s.rings := rfl
@[simp] theorem State.setTimebase_admin : (s.setTimebase x).admin = s.admin := rfl
@[simp] theorem State.setTimebase_jobs : (s.setTimebase x).jobs = s.jobs := rfl
@[simp] theorem State.setTimebase_handOver : (s.setTimebase x).handOver = s.handOver := rfl
@[simp] theorem State.setTimebase_lists : (s.setTimebase x).lists = s.lists := rfl
@[simp] theorem State.setTimebase_window : (s.setTimebase x).window = s.window := rfl
@[simp] theorem State.setTimebase_deferral : (s.setTimebase x).deferral = s.deferral := rfl
@[simp] theorem State.setTimebase_loop : (s.setTimebase x).loop = s.loop := rfl
@[simp] theorem State.setTimebase_nodes : (s.setTimebase x).nodes = s.nodes := rfl
@[simp] theorem State.setTimebase_queryRefused : (s.setTimebase x).queryRefused = s.queryRefused := rfl
@[simp] theorem State.setTimebase_attention : (s.setTimebase x).attention = s.attention := rfl
@[simp] theorem State.setTimebase_slots : (s.setTimebase x).slots = s.slots := rfl
@[simp] theorem State.setTimebase_notices : (s.setTimebase x).notices = s.notices := rfl
@[simp] theorem State.setTimebase_pending : (s.setTimebase x).pending = s.pending := rfl
end

/-! ### State.setHost -/

section
variable (s : State) (x : HostPort)
@[simp] theorem State.setHost_regs : (s.setHost x).regs = s.regs := rfl
@[simp] theorem State.setHost_params : (s.setHost x).params = s.params := rfl
@[simp] theorem State.setHost_timebase : (s.setHost x).timebase = s.timebase := rfl
@[simp] theorem State.setHost_host : (s.setHost x).host = x := rfl
@[simp] theorem State.setHost_rings : (s.setHost x).rings = s.rings := rfl
@[simp] theorem State.setHost_admin : (s.setHost x).admin = s.admin := rfl
@[simp] theorem State.setHost_jobs : (s.setHost x).jobs = s.jobs := rfl
@[simp] theorem State.setHost_handOver : (s.setHost x).handOver = s.handOver := rfl
@[simp] theorem State.setHost_lists : (s.setHost x).lists = s.lists := rfl
@[simp] theorem State.setHost_window : (s.setHost x).window = s.window := rfl
@[simp] theorem State.setHost_deferral : (s.setHost x).deferral = s.deferral := rfl
@[simp] theorem State.setHost_loop : (s.setHost x).loop = s.loop := rfl
@[simp] theorem State.setHost_nodes : (s.setHost x).nodes = s.nodes := rfl
@[simp] theorem State.setHost_queryRefused : (s.setHost x).queryRefused = s.queryRefused := rfl
@[simp] theorem State.setHost_attention : (s.setHost x).attention = s.attention := rfl
@[simp] theorem State.setHost_slots : (s.setHost x).slots = s.slots := rfl
@[simp] theorem State.setHost_notices : (s.setHost x).notices = s.notices := rfl
@[simp] theorem State.setHost_pending : (s.setHost x).pending = s.pending := rfl
end

/-! ### State.setRings -/

section
variable (s : State) (x : RingEngine)
@[simp] theorem State.setRings_regs : (s.setRings x).regs = s.regs := rfl
@[simp] theorem State.setRings_params : (s.setRings x).params = s.params := rfl
@[simp] theorem State.setRings_timebase : (s.setRings x).timebase = s.timebase := rfl
@[simp] theorem State.setRings_host : (s.setRings x).host = s.host := rfl
@[simp] theorem State.setRings_rings : (s.setRings x).rings = x := rfl
@[simp] theorem State.setRings_admin : (s.setRings x).admin = s.admin := rfl
@[simp] theorem State.setRings_jobs : (s.setRings x).jobs = s.jobs := rfl
@[simp] theorem State.setRings_handOver : (s.setRings x).handOver = s.handOver := rfl
@[simp] theorem State.setRings_lists : (s.setRings x).lists = s.lists := rfl
@[simp] theorem State.setRings_window : (s.setRings x).window = s.window := rfl
@[simp] theorem State.setRings_deferral : (s.setRings x).deferral = s.deferral := rfl
@[simp] theorem State.setRings_loop : (s.setRings x).loop = s.loop := rfl
@[simp] theorem State.setRings_nodes : (s.setRings x).nodes = s.nodes := rfl
@[simp] theorem State.setRings_queryRefused : (s.setRings x).queryRefused = s.queryRefused := rfl
@[simp] theorem State.setRings_attention : (s.setRings x).attention = s.attention := rfl
@[simp] theorem State.setRings_slots : (s.setRings x).slots = s.slots := rfl
@[simp] theorem State.setRings_notices : (s.setRings x).notices = s.notices := rfl
@[simp] theorem State.setRings_pending : (s.setRings x).pending = s.pending := rfl
end

/-! ### State.setAdmin -/

section
variable (s : State) (x : AdminUnit)
@[simp] theorem State.setAdmin_regs : (s.setAdmin x).regs = s.regs := rfl
@[simp] theorem State.setAdmin_params : (s.setAdmin x).params = s.params := rfl
@[simp] theorem State.setAdmin_timebase : (s.setAdmin x).timebase = s.timebase := rfl
@[simp] theorem State.setAdmin_host : (s.setAdmin x).host = s.host := rfl
@[simp] theorem State.setAdmin_rings : (s.setAdmin x).rings = s.rings := rfl
@[simp] theorem State.setAdmin_admin : (s.setAdmin x).admin = x := rfl
@[simp] theorem State.setAdmin_jobs : (s.setAdmin x).jobs = s.jobs := rfl
@[simp] theorem State.setAdmin_handOver : (s.setAdmin x).handOver = s.handOver := rfl
@[simp] theorem State.setAdmin_lists : (s.setAdmin x).lists = s.lists := rfl
@[simp] theorem State.setAdmin_window : (s.setAdmin x).window = s.window := rfl
@[simp] theorem State.setAdmin_deferral : (s.setAdmin x).deferral = s.deferral := rfl
@[simp] theorem State.setAdmin_loop : (s.setAdmin x).loop = s.loop := rfl
@[simp] theorem State.setAdmin_nodes : (s.setAdmin x).nodes = s.nodes := rfl
@[simp] theorem State.setAdmin_queryRefused : (s.setAdmin x).queryRefused = s.queryRefused := rfl
@[simp] theorem State.setAdmin_attention : (s.setAdmin x).attention = s.attention := rfl
@[simp] theorem State.setAdmin_slots : (s.setAdmin x).slots = s.slots := rfl
@[simp] theorem State.setAdmin_notices : (s.setAdmin x).notices = s.notices := rfl
@[simp] theorem State.setAdmin_pending : (s.setAdmin x).pending = s.pending := rfl
end

/-! ### State.setJobs -/

section
variable (s : State) (x : Vector Context 16)
@[simp] theorem State.setJobs_regs : (s.setJobs x).regs = s.regs := rfl
@[simp] theorem State.setJobs_params : (s.setJobs x).params = s.params := rfl
@[simp] theorem State.setJobs_timebase : (s.setJobs x).timebase = s.timebase := rfl
@[simp] theorem State.setJobs_host : (s.setJobs x).host = s.host := rfl
@[simp] theorem State.setJobs_rings : (s.setJobs x).rings = s.rings := rfl
@[simp] theorem State.setJobs_admin : (s.setJobs x).admin = s.admin := rfl
@[simp] theorem State.setJobs_jobs : (s.setJobs x).jobs = x := rfl
@[simp] theorem State.setJobs_handOver : (s.setJobs x).handOver = s.handOver := rfl
@[simp] theorem State.setJobs_lists : (s.setJobs x).lists = s.lists := rfl
@[simp] theorem State.setJobs_window : (s.setJobs x).window = s.window := rfl
@[simp] theorem State.setJobs_deferral : (s.setJobs x).deferral = s.deferral := rfl
@[simp] theorem State.setJobs_loop : (s.setJobs x).loop = s.loop := rfl
@[simp] theorem State.setJobs_nodes : (s.setJobs x).nodes = s.nodes := rfl
@[simp] theorem State.setJobs_queryRefused : (s.setJobs x).queryRefused = s.queryRefused := rfl
@[simp] theorem State.setJobs_attention : (s.setJobs x).attention = s.attention := rfl
@[simp] theorem State.setJobs_slots : (s.setJobs x).slots = s.slots := rfl
@[simp] theorem State.setJobs_notices : (s.setJobs x).notices = s.notices := rfl
@[simp] theorem State.setJobs_pending : (s.setJobs x).pending = s.pending := rfl
end

/-! ### State.setHandOver -/

section
variable (s : State) (x : List CtxId)
@[simp] theorem State.setHandOver_regs : (s.setHandOver x).regs = s.regs := rfl
@[simp] theorem State.setHandOver_params : (s.setHandOver x).params = s.params := rfl
@[simp] theorem State.setHandOver_timebase : (s.setHandOver x).timebase = s.timebase := rfl
@[simp] theorem State.setHandOver_host : (s.setHandOver x).host = s.host := rfl
@[simp] theorem State.setHandOver_rings : (s.setHandOver x).rings = s.rings := rfl
@[simp] theorem State.setHandOver_admin : (s.setHandOver x).admin = s.admin := rfl
@[simp] theorem State.setHandOver_jobs : (s.setHandOver x).jobs = s.jobs := rfl
@[simp] theorem State.setHandOver_handOver : (s.setHandOver x).handOver = x := rfl
@[simp] theorem State.setHandOver_lists : (s.setHandOver x).lists = s.lists := rfl
@[simp] theorem State.setHandOver_window : (s.setHandOver x).window = s.window := rfl
@[simp] theorem State.setHandOver_deferral : (s.setHandOver x).deferral = s.deferral := rfl
@[simp] theorem State.setHandOver_loop : (s.setHandOver x).loop = s.loop := rfl
@[simp] theorem State.setHandOver_nodes : (s.setHandOver x).nodes = s.nodes := rfl
@[simp] theorem State.setHandOver_queryRefused : (s.setHandOver x).queryRefused = s.queryRefused := rfl
@[simp] theorem State.setHandOver_attention : (s.setHandOver x).attention = s.attention := rfl
@[simp] theorem State.setHandOver_slots : (s.setHandOver x).slots = s.slots := rfl
@[simp] theorem State.setHandOver_notices : (s.setHandOver x).notices = s.notices := rfl
@[simp] theorem State.setHandOver_pending : (s.setHandOver x).pending = s.pending := rfl
end

/-! ### State.setLists -/

section
variable (s : State) (x : Vector StoredList 64)
@[simp] theorem State.setLists_regs : (s.setLists x).regs = s.regs := rfl
@[simp] theorem State.setLists_params : (s.setLists x).params = s.params := rfl
@[simp] theorem State.setLists_timebase : (s.setLists x).timebase = s.timebase := rfl
@[simp] theorem State.setLists_host : (s.setLists x).host = s.host := rfl
@[simp] theorem State.setLists_rings : (s.setLists x).rings = s.rings := rfl
@[simp] theorem State.setLists_admin : (s.setLists x).admin = s.admin := rfl
@[simp] theorem State.setLists_jobs : (s.setLists x).jobs = s.jobs := rfl
@[simp] theorem State.setLists_handOver : (s.setLists x).handOver = s.handOver := rfl
@[simp] theorem State.setLists_lists : (s.setLists x).lists = x := rfl
@[simp] theorem State.setLists_window : (s.setLists x).window = s.window := rfl
@[simp] theorem State.setLists_deferral : (s.setLists x).deferral = s.deferral := rfl
@[simp] theorem State.setLists_loop : (s.setLists x).loop = s.loop := rfl
@[simp] theorem State.setLists_nodes : (s.setLists x).nodes = s.nodes := rfl
@[simp] theorem State.setLists_queryRefused : (s.setLists x).queryRefused = s.queryRefused := rfl
@[simp] theorem State.setLists_attention : (s.setLists x).attention = s.attention := rfl
@[simp] theorem State.setLists_slots : (s.setLists x).slots = s.slots := rfl
@[simp] theorem State.setLists_notices : (s.setLists x).notices = s.notices := rfl
@[simp] theorem State.setLists_pending : (s.setLists x).pending = s.pending := rfl
end

/-! ### State.setWindow -/

section
variable (s : State) (x : Window)
@[simp] theorem State.setWindow_regs : (s.setWindow x).regs = s.regs := rfl
@[simp] theorem State.setWindow_params : (s.setWindow x).params = s.params := rfl
@[simp] theorem State.setWindow_timebase : (s.setWindow x).timebase = s.timebase := rfl
@[simp] theorem State.setWindow_host : (s.setWindow x).host = s.host := rfl
@[simp] theorem State.setWindow_rings : (s.setWindow x).rings = s.rings := rfl
@[simp] theorem State.setWindow_admin : (s.setWindow x).admin = s.admin := rfl
@[simp] theorem State.setWindow_jobs : (s.setWindow x).jobs = s.jobs := rfl
@[simp] theorem State.setWindow_handOver : (s.setWindow x).handOver = s.handOver := rfl
@[simp] theorem State.setWindow_lists : (s.setWindow x).lists = s.lists := rfl
@[simp] theorem State.setWindow_window : (s.setWindow x).window = x := rfl
@[simp] theorem State.setWindow_deferral : (s.setWindow x).deferral = s.deferral := rfl
@[simp] theorem State.setWindow_loop : (s.setWindow x).loop = s.loop := rfl
@[simp] theorem State.setWindow_nodes : (s.setWindow x).nodes = s.nodes := rfl
@[simp] theorem State.setWindow_queryRefused : (s.setWindow x).queryRefused = s.queryRefused := rfl
@[simp] theorem State.setWindow_attention : (s.setWindow x).attention = s.attention := rfl
@[simp] theorem State.setWindow_slots : (s.setWindow x).slots = s.slots := rfl
@[simp] theorem State.setWindow_notices : (s.setWindow x).notices = s.notices := rfl
@[simp] theorem State.setWindow_pending : (s.setWindow x).pending = s.pending := rfl
end

/-! ### State.setDeferral -/

section
variable (s : State) (x : DeferTable)
@[simp] theorem State.setDeferral_regs : (s.setDeferral x).regs = s.regs := rfl
@[simp] theorem State.setDeferral_params : (s.setDeferral x).params = s.params := rfl
@[simp] theorem State.setDeferral_timebase : (s.setDeferral x).timebase = s.timebase := rfl
@[simp] theorem State.setDeferral_host : (s.setDeferral x).host = s.host := rfl
@[simp] theorem State.setDeferral_rings : (s.setDeferral x).rings = s.rings := rfl
@[simp] theorem State.setDeferral_admin : (s.setDeferral x).admin = s.admin := rfl
@[simp] theorem State.setDeferral_jobs : (s.setDeferral x).jobs = s.jobs := rfl
@[simp] theorem State.setDeferral_handOver : (s.setDeferral x).handOver = s.handOver := rfl
@[simp] theorem State.setDeferral_lists : (s.setDeferral x).lists = s.lists := rfl
@[simp] theorem State.setDeferral_window : (s.setDeferral x).window = s.window := rfl
@[simp] theorem State.setDeferral_deferral : (s.setDeferral x).deferral = x := rfl
@[simp] theorem State.setDeferral_loop : (s.setDeferral x).loop = s.loop := rfl
@[simp] theorem State.setDeferral_nodes : (s.setDeferral x).nodes = s.nodes := rfl
@[simp] theorem State.setDeferral_queryRefused : (s.setDeferral x).queryRefused = s.queryRefused := rfl
@[simp] theorem State.setDeferral_attention : (s.setDeferral x).attention = s.attention := rfl
@[simp] theorem State.setDeferral_slots : (s.setDeferral x).slots = s.slots := rfl
@[simp] theorem State.setDeferral_notices : (s.setDeferral x).notices = s.notices := rfl
@[simp] theorem State.setDeferral_pending : (s.setDeferral x).pending = s.pending := rfl
end

/-! ### State.setLoop -/

section
variable (s : State) (x : LoopController)
@[simp] theorem State.setLoop_regs : (s.setLoop x).regs = s.regs := rfl
@[simp] theorem State.setLoop_params : (s.setLoop x).params = s.params := rfl
@[simp] theorem State.setLoop_timebase : (s.setLoop x).timebase = s.timebase := rfl
@[simp] theorem State.setLoop_host : (s.setLoop x).host = s.host := rfl
@[simp] theorem State.setLoop_rings : (s.setLoop x).rings = s.rings := rfl
@[simp] theorem State.setLoop_admin : (s.setLoop x).admin = s.admin := rfl
@[simp] theorem State.setLoop_jobs : (s.setLoop x).jobs = s.jobs := rfl
@[simp] theorem State.setLoop_handOver : (s.setLoop x).handOver = s.handOver := rfl
@[simp] theorem State.setLoop_lists : (s.setLoop x).lists = s.lists := rfl
@[simp] theorem State.setLoop_window : (s.setLoop x).window = s.window := rfl
@[simp] theorem State.setLoop_deferral : (s.setLoop x).deferral = s.deferral := rfl
@[simp] theorem State.setLoop_loop : (s.setLoop x).loop = x := rfl
@[simp] theorem State.setLoop_nodes : (s.setLoop x).nodes = s.nodes := rfl
@[simp] theorem State.setLoop_queryRefused : (s.setLoop x).queryRefused = s.queryRefused := rfl
@[simp] theorem State.setLoop_attention : (s.setLoop x).attention = s.attention := rfl
@[simp] theorem State.setLoop_slots : (s.setLoop x).slots = s.slots := rfl
@[simp] theorem State.setLoop_notices : (s.setLoop x).notices = s.notices := rfl
@[simp] theorem State.setLoop_pending : (s.setLoop x).pending = s.pending := rfl
end

/-! ### State.setNodes -/

section
variable (s : State) (x : NodeUnit)
@[simp] theorem State.setNodes_regs : (s.setNodes x).regs = s.regs := rfl
@[simp] theorem State.setNodes_params : (s.setNodes x).params = s.params := rfl
@[simp] theorem State.setNodes_timebase : (s.setNodes x).timebase = s.timebase := rfl
@[simp] theorem State.setNodes_host : (s.setNodes x).host = s.host := rfl
@[simp] theorem State.setNodes_rings : (s.setNodes x).rings = s.rings := rfl
@[simp] theorem State.setNodes_admin : (s.setNodes x).admin = s.admin := rfl
@[simp] theorem State.setNodes_jobs : (s.setNodes x).jobs = s.jobs := rfl
@[simp] theorem State.setNodes_handOver : (s.setNodes x).handOver = s.handOver := rfl
@[simp] theorem State.setNodes_lists : (s.setNodes x).lists = s.lists := rfl
@[simp] theorem State.setNodes_window : (s.setNodes x).window = s.window := rfl
@[simp] theorem State.setNodes_deferral : (s.setNodes x).deferral = s.deferral := rfl
@[simp] theorem State.setNodes_loop : (s.setNodes x).loop = s.loop := rfl
@[simp] theorem State.setNodes_nodes : (s.setNodes x).nodes = x := rfl
@[simp] theorem State.setNodes_queryRefused : (s.setNodes x).queryRefused = s.queryRefused := rfl
@[simp] theorem State.setNodes_attention : (s.setNodes x).attention = s.attention := rfl
@[simp] theorem State.setNodes_slots : (s.setNodes x).slots = s.slots := rfl
@[simp] theorem State.setNodes_notices : (s.setNodes x).notices = s.notices := rfl
@[simp] theorem State.setNodes_pending : (s.setNodes x).pending = s.pending := rfl
end

/-! ### State.setQueryRefused -/

section
variable (s : State) (x : BitVec 30)
@[simp] theorem State.setQueryRefused_regs : (s.setQueryRefused x).regs = s.regs := rfl
@[simp] theorem State.setQueryRefused_params : (s.setQueryRefused x).params = s.params := rfl
@[simp] theorem State.setQueryRefused_timebase : (s.setQueryRefused x).timebase = s.timebase := rfl
@[simp] theorem State.setQueryRefused_host : (s.setQueryRefused x).host = s.host := rfl
@[simp] theorem State.setQueryRefused_rings : (s.setQueryRefused x).rings = s.rings := rfl
@[simp] theorem State.setQueryRefused_admin : (s.setQueryRefused x).admin = s.admin := rfl
@[simp] theorem State.setQueryRefused_jobs : (s.setQueryRefused x).jobs = s.jobs := rfl
@[simp] theorem State.setQueryRefused_handOver : (s.setQueryRefused x).handOver = s.handOver := rfl
@[simp] theorem State.setQueryRefused_lists : (s.setQueryRefused x).lists = s.lists := rfl
@[simp] theorem State.setQueryRefused_window : (s.setQueryRefused x).window = s.window := rfl
@[simp] theorem State.setQueryRefused_deferral : (s.setQueryRefused x).deferral = s.deferral := rfl
@[simp] theorem State.setQueryRefused_loop : (s.setQueryRefused x).loop = s.loop := rfl
@[simp] theorem State.setQueryRefused_nodes : (s.setQueryRefused x).nodes = s.nodes := rfl
@[simp] theorem State.setQueryRefused_queryRefused : (s.setQueryRefused x).queryRefused = x := rfl
@[simp] theorem State.setQueryRefused_attention : (s.setQueryRefused x).attention = s.attention := rfl
@[simp] theorem State.setQueryRefused_slots : (s.setQueryRefused x).slots = s.slots := rfl
@[simp] theorem State.setQueryRefused_notices : (s.setQueryRefused x).notices = s.notices := rfl
@[simp] theorem State.setQueryRefused_pending : (s.setQueryRefused x).pending = s.pending := rfl
end

/-! ### State.setAttention -/

section
variable (s : State) (x : AttentionUnit)
@[simp] theorem State.setAttention_regs : (s.setAttention x).regs = s.regs := rfl
@[simp] theorem State.setAttention_params : (s.setAttention x).params = s.params := rfl
@[simp] theorem State.setAttention_timebase : (s.setAttention x).timebase = s.timebase := rfl
@[simp] theorem State.setAttention_host : (s.setAttention x).host = s.host := rfl
@[simp] theorem State.setAttention_rings : (s.setAttention x).rings = s.rings := rfl
@[simp] theorem State.setAttention_admin : (s.setAttention x).admin = s.admin := rfl
@[simp] theorem State.setAttention_jobs : (s.setAttention x).jobs = s.jobs := rfl
@[simp] theorem State.setAttention_handOver : (s.setAttention x).handOver = s.handOver := rfl
@[simp] theorem State.setAttention_lists : (s.setAttention x).lists = s.lists := rfl
@[simp] theorem State.setAttention_window : (s.setAttention x).window = s.window := rfl
@[simp] theorem State.setAttention_deferral : (s.setAttention x).deferral = s.deferral := rfl
@[simp] theorem State.setAttention_loop : (s.setAttention x).loop = s.loop := rfl
@[simp] theorem State.setAttention_nodes : (s.setAttention x).nodes = s.nodes := rfl
@[simp] theorem State.setAttention_queryRefused : (s.setAttention x).queryRefused = s.queryRefused := rfl
@[simp] theorem State.setAttention_attention : (s.setAttention x).attention = x := rfl
@[simp] theorem State.setAttention_slots : (s.setAttention x).slots = s.slots := rfl
@[simp] theorem State.setAttention_notices : (s.setAttention x).notices = s.notices := rfl
@[simp] theorem State.setAttention_pending : (s.setAttention x).pending = s.pending := rfl
end

/-! ### State.setSlots -/

section
variable (s : State) (x : Vector Slot 8)
@[simp] theorem State.setSlots_regs : (s.setSlots x).regs = s.regs := rfl
@[simp] theorem State.setSlots_params : (s.setSlots x).params = s.params := rfl
@[simp] theorem State.setSlots_timebase : (s.setSlots x).timebase = s.timebase := rfl
@[simp] theorem State.setSlots_host : (s.setSlots x).host = s.host := rfl
@[simp] theorem State.setSlots_rings : (s.setSlots x).rings = s.rings := rfl
@[simp] theorem State.setSlots_admin : (s.setSlots x).admin = s.admin := rfl
@[simp] theorem State.setSlots_jobs : (s.setSlots x).jobs = s.jobs := rfl
@[simp] theorem State.setSlots_handOver : (s.setSlots x).handOver = s.handOver := rfl
@[simp] theorem State.setSlots_lists : (s.setSlots x).lists = s.lists := rfl
@[simp] theorem State.setSlots_window : (s.setSlots x).window = s.window := rfl
@[simp] theorem State.setSlots_deferral : (s.setSlots x).deferral = s.deferral := rfl
@[simp] theorem State.setSlots_loop : (s.setSlots x).loop = s.loop := rfl
@[simp] theorem State.setSlots_nodes : (s.setSlots x).nodes = s.nodes := rfl
@[simp] theorem State.setSlots_queryRefused : (s.setSlots x).queryRefused = s.queryRefused := rfl
@[simp] theorem State.setSlots_attention : (s.setSlots x).attention = s.attention := rfl
@[simp] theorem State.setSlots_slots : (s.setSlots x).slots = x := rfl
@[simp] theorem State.setSlots_notices : (s.setSlots x).notices = s.notices := rfl
@[simp] theorem State.setSlots_pending : (s.setSlots x).pending = s.pending := rfl
end

/-! ### State.setNotices -/

section
variable (s : State) (x : List Notice)
@[simp] theorem State.setNotices_regs : (s.setNotices x).regs = s.regs := rfl
@[simp] theorem State.setNotices_params : (s.setNotices x).params = s.params := rfl
@[simp] theorem State.setNotices_timebase : (s.setNotices x).timebase = s.timebase := rfl
@[simp] theorem State.setNotices_host : (s.setNotices x).host = s.host := rfl
@[simp] theorem State.setNotices_rings : (s.setNotices x).rings = s.rings := rfl
@[simp] theorem State.setNotices_admin : (s.setNotices x).admin = s.admin := rfl
@[simp] theorem State.setNotices_jobs : (s.setNotices x).jobs = s.jobs := rfl
@[simp] theorem State.setNotices_handOver : (s.setNotices x).handOver = s.handOver := rfl
@[simp] theorem State.setNotices_lists : (s.setNotices x).lists = s.lists := rfl
@[simp] theorem State.setNotices_window : (s.setNotices x).window = s.window := rfl
@[simp] theorem State.setNotices_deferral : (s.setNotices x).deferral = s.deferral := rfl
@[simp] theorem State.setNotices_loop : (s.setNotices x).loop = s.loop := rfl
@[simp] theorem State.setNotices_nodes : (s.setNotices x).nodes = s.nodes := rfl
@[simp] theorem State.setNotices_queryRefused : (s.setNotices x).queryRefused = s.queryRefused := rfl
@[simp] theorem State.setNotices_attention : (s.setNotices x).attention = s.attention := rfl
@[simp] theorem State.setNotices_slots : (s.setNotices x).slots = s.slots := rfl
@[simp] theorem State.setNotices_notices : (s.setNotices x).notices = x := rfl
@[simp] theorem State.setNotices_pending : (s.setNotices x).pending = s.pending := rfl
end

/-! ### State.setCtx -/

section
variable (s : State) (i j : CtxId) (x : Context)
@[simp] theorem State.setCtx_ctx_self : (s.setCtx i x).ctx i = x := vget_vset_self _ _ _
theorem State.setCtx_ctx_ne (h : i ≠ j) : (s.setCtx i x).ctx j = s.ctx j := vget_vset_ne _ _ _ _ h
@[simp] theorem State.setCtx_regs : (s.setCtx i x).regs = s.regs := rfl
@[simp] theorem State.setCtx_params : (s.setCtx i x).params = s.params := rfl
@[simp] theorem State.setCtx_timebase : (s.setCtx i x).timebase = s.timebase := rfl
@[simp] theorem State.setCtx_host : (s.setCtx i x).host = s.host := rfl
@[simp] theorem State.setCtx_rings : (s.setCtx i x).rings = s.rings := rfl
@[simp] theorem State.setCtx_admin : (s.setCtx i x).admin = s.admin := rfl
@[simp] theorem State.setCtx_lists : (s.setCtx i x).lists = s.lists := rfl
@[simp] theorem State.setCtx_window : (s.setCtx i x).window = s.window := rfl
@[simp] theorem State.setCtx_deferral : (s.setCtx i x).deferral = s.deferral := rfl
@[simp] theorem State.setCtx_loop : (s.setCtx i x).loop = s.loop := rfl
@[simp] theorem State.setCtx_nodes : (s.setCtx i x).nodes = s.nodes := rfl
@[simp] theorem State.setCtx_queryRefused : (s.setCtx i x).queryRefused = s.queryRefused := rfl
@[simp] theorem State.setCtx_attention : (s.setCtx i x).attention = s.attention := rfl
@[simp] theorem State.setCtx_slots : (s.setCtx i x).slots = s.slots := rfl
@[simp] theorem State.setCtx_notices : (s.setCtx i x).notices = s.notices := rfl
@[simp] theorem State.setCtx_handOver : (s.setCtx i x).handOver = s.handOver := rfl
@[simp] theorem State.setCtx_pending : (s.setCtx i x).pending = s.pending := rfl
end

/-! ### State.setStored -/

section
variable (s : State) (i j : ListId) (x : StoredList)
@[simp] theorem State.setStored_stored_self : (s.setStored i x).stored i = x := vget_vset_self _ _ _
theorem State.setStored_stored_ne (h : i ≠ j) : (s.setStored i x).stored j = s.stored j := vget_vset_ne _ _ _ _ h
@[simp] theorem State.setStored_regs : (s.setStored i x).regs = s.regs := rfl
@[simp] theorem State.setStored_params : (s.setStored i x).params = s.params := rfl
@[simp] theorem State.setStored_timebase : (s.setStored i x).timebase = s.timebase := rfl
@[simp] theorem State.setStored_host : (s.setStored i x).host = s.host := rfl
@[simp] theorem State.setStored_rings : (s.setStored i x).rings = s.rings := rfl
@[simp] theorem State.setStored_admin : (s.setStored i x).admin = s.admin := rfl
@[simp] theorem State.setStored_jobs : (s.setStored i x).jobs = s.jobs := rfl
@[simp] theorem State.setStored_window : (s.setStored i x).window = s.window := rfl
@[simp] theorem State.setStored_deferral : (s.setStored i x).deferral = s.deferral := rfl
@[simp] theorem State.setStored_loop : (s.setStored i x).loop = s.loop := rfl
@[simp] theorem State.setStored_nodes : (s.setStored i x).nodes = s.nodes := rfl
@[simp] theorem State.setStored_queryRefused : (s.setStored i x).queryRefused = s.queryRefused := rfl
@[simp] theorem State.setStored_attention : (s.setStored i x).attention = s.attention := rfl
@[simp] theorem State.setStored_slots : (s.setStored i x).slots = s.slots := rfl
@[simp] theorem State.setStored_notices : (s.setStored i x).notices = s.notices := rfl
@[simp] theorem State.setStored_handOver : (s.setStored i x).handOver = s.handOver := rfl
@[simp] theorem State.setStored_pending : (s.setStored i x).pending = s.pending := rfl
end

/-! ### State.setSubRing -/

section
variable (s : State) (i j : RingId) (x : SubRing)
@[simp] theorem State.setSubRing_subRing_self : (s.setSubRing i x).subRing i = x := vget_vset_self _ _ _
theorem State.setSubRing_subRing_ne (h : i ≠ j) : (s.setSubRing i x).subRing j = s.subRing j := vget_vset_ne _ _ _ _ h
@[simp] theorem State.setSubRing_regs : (s.setSubRing i x).regs = s.regs := rfl
@[simp] theorem State.setSubRing_params : (s.setSubRing i x).params = s.params := rfl
@[simp] theorem State.setSubRing_timebase : (s.setSubRing i x).timebase = s.timebase := rfl
@[simp] theorem State.setSubRing_host : (s.setSubRing i x).host = s.host := rfl
@[simp] theorem State.setSubRing_admin : (s.setSubRing i x).admin = s.admin := rfl
@[simp] theorem State.setSubRing_jobs : (s.setSubRing i x).jobs = s.jobs := rfl
@[simp] theorem State.setSubRing_lists : (s.setSubRing i x).lists = s.lists := rfl
@[simp] theorem State.setSubRing_window : (s.setSubRing i x).window = s.window := rfl
@[simp] theorem State.setSubRing_deferral : (s.setSubRing i x).deferral = s.deferral := rfl
@[simp] theorem State.setSubRing_loop : (s.setSubRing i x).loop = s.loop := rfl
@[simp] theorem State.setSubRing_nodes : (s.setSubRing i x).nodes = s.nodes := rfl
@[simp] theorem State.setSubRing_queryRefused : (s.setSubRing i x).queryRefused = s.queryRefused := rfl
@[simp] theorem State.setSubRing_attention : (s.setSubRing i x).attention = s.attention := rfl
@[simp] theorem State.setSubRing_slots : (s.setSubRing i x).slots = s.slots := rfl
@[simp] theorem State.setSubRing_notices : (s.setSubRing i x).notices = s.notices := rfl
@[simp] theorem State.setSubRing_handOver : (s.setSubRing i x).handOver = s.handOver := rfl
@[simp] theorem State.setSubRing_pending : (s.setSubRing i x).pending = s.pending := rfl
end

/-! ### State.setCompRing -/

section
variable (s : State) (i j : RingId) (x : CompRing)
@[simp] theorem State.setCompRing_compRing_self : (s.setCompRing i x).compRing i = x := vget_vset_self _ _ _
theorem State.setCompRing_compRing_ne (h : i ≠ j) : (s.setCompRing i x).compRing j = s.compRing j := vget_vset_ne _ _ _ _ h
@[simp] theorem State.setCompRing_regs : (s.setCompRing i x).regs = s.regs := rfl
@[simp] theorem State.setCompRing_params : (s.setCompRing i x).params = s.params := rfl
@[simp] theorem State.setCompRing_timebase : (s.setCompRing i x).timebase = s.timebase := rfl
@[simp] theorem State.setCompRing_host : (s.setCompRing i x).host = s.host := rfl
@[simp] theorem State.setCompRing_admin : (s.setCompRing i x).admin = s.admin := rfl
@[simp] theorem State.setCompRing_jobs : (s.setCompRing i x).jobs = s.jobs := rfl
@[simp] theorem State.setCompRing_lists : (s.setCompRing i x).lists = s.lists := rfl
@[simp] theorem State.setCompRing_window : (s.setCompRing i x).window = s.window := rfl
@[simp] theorem State.setCompRing_deferral : (s.setCompRing i x).deferral = s.deferral := rfl
@[simp] theorem State.setCompRing_loop : (s.setCompRing i x).loop = s.loop := rfl
@[simp] theorem State.setCompRing_nodes : (s.setCompRing i x).nodes = s.nodes := rfl
@[simp] theorem State.setCompRing_queryRefused : (s.setCompRing i x).queryRefused = s.queryRefused := rfl
@[simp] theorem State.setCompRing_attention : (s.setCompRing i x).attention = s.attention := rfl
@[simp] theorem State.setCompRing_slots : (s.setCompRing i x).slots = s.slots := rfl
@[simp] theorem State.setCompRing_notices : (s.setCompRing i x).notices = s.notices := rfl
@[simp] theorem State.setCompRing_handOver : (s.setCompRing i x).handOver = s.handOver := rfl
@[simp] theorem State.setCompRing_pending : (s.setCompRing i x).pending = s.pending := rfl
end

/-! ### State.setCaptureRing -/

section
variable (s : State) (i j : SlotId) (x : CaptureRing)
@[simp] theorem State.setCaptureRing_captureRing_self : (s.setCaptureRing i x).captureRing i = x := vget_vset_self _ _ _
theorem State.setCaptureRing_captureRing_ne (h : i ≠ j) : (s.setCaptureRing i x).captureRing j = s.captureRing j := vget_vset_ne _ _ _ _ h
@[simp] theorem State.setCaptureRing_regs : (s.setCaptureRing i x).regs = s.regs := rfl
@[simp] theorem State.setCaptureRing_params : (s.setCaptureRing i x).params = s.params := rfl
@[simp] theorem State.setCaptureRing_timebase : (s.setCaptureRing i x).timebase = s.timebase := rfl
@[simp] theorem State.setCaptureRing_host : (s.setCaptureRing i x).host = s.host := rfl
@[simp] theorem State.setCaptureRing_admin : (s.setCaptureRing i x).admin = s.admin := rfl
@[simp] theorem State.setCaptureRing_jobs : (s.setCaptureRing i x).jobs = s.jobs := rfl
@[simp] theorem State.setCaptureRing_lists : (s.setCaptureRing i x).lists = s.lists := rfl
@[simp] theorem State.setCaptureRing_window : (s.setCaptureRing i x).window = s.window := rfl
@[simp] theorem State.setCaptureRing_deferral : (s.setCaptureRing i x).deferral = s.deferral := rfl
@[simp] theorem State.setCaptureRing_loop : (s.setCaptureRing i x).loop = s.loop := rfl
@[simp] theorem State.setCaptureRing_nodes : (s.setCaptureRing i x).nodes = s.nodes := rfl
@[simp] theorem State.setCaptureRing_queryRefused : (s.setCaptureRing i x).queryRefused = s.queryRefused := rfl
@[simp] theorem State.setCaptureRing_attention : (s.setCaptureRing i x).attention = s.attention := rfl
@[simp] theorem State.setCaptureRing_slots : (s.setCaptureRing i x).slots = s.slots := rfl
@[simp] theorem State.setCaptureRing_notices : (s.setCaptureRing i x).notices = s.notices := rfl
@[simp] theorem State.setCaptureRing_handOver : (s.setCaptureRing i x).handOver = s.handOver := rfl
@[simp] theorem State.setCaptureRing_pending : (s.setCaptureRing i x).pending = s.pending := rfl
end

/-! ### State.setSlot -/

section
variable (s : State) (i j : SlotId) (x : Slot)
@[simp] theorem State.setSlot_slot_self : (s.setSlot i x).slot i = x := vget_vset_self _ _ _
theorem State.setSlot_slot_ne (h : i ≠ j) : (s.setSlot i x).slot j = s.slot j := vget_vset_ne _ _ _ _ h
@[simp] theorem State.setSlot_regs : (s.setSlot i x).regs = s.regs := rfl
@[simp] theorem State.setSlot_params : (s.setSlot i x).params = s.params := rfl
@[simp] theorem State.setSlot_timebase : (s.setSlot i x).timebase = s.timebase := rfl
@[simp] theorem State.setSlot_host : (s.setSlot i x).host = s.host := rfl
@[simp] theorem State.setSlot_rings : (s.setSlot i x).rings = s.rings := rfl
@[simp] theorem State.setSlot_admin : (s.setSlot i x).admin = s.admin := rfl
@[simp] theorem State.setSlot_jobs : (s.setSlot i x).jobs = s.jobs := rfl
@[simp] theorem State.setSlot_lists : (s.setSlot i x).lists = s.lists := rfl
@[simp] theorem State.setSlot_window : (s.setSlot i x).window = s.window := rfl
@[simp] theorem State.setSlot_deferral : (s.setSlot i x).deferral = s.deferral := rfl
@[simp] theorem State.setSlot_loop : (s.setSlot i x).loop = s.loop := rfl
@[simp] theorem State.setSlot_nodes : (s.setSlot i x).nodes = s.nodes := rfl
@[simp] theorem State.setSlot_queryRefused : (s.setSlot i x).queryRefused = s.queryRefused := rfl
@[simp] theorem State.setSlot_attention : (s.setSlot i x).attention = s.attention := rfl
@[simp] theorem State.setSlot_notices : (s.setSlot i x).notices = s.notices := rfl
@[simp] theorem State.setSlot_handOver : (s.setSlot i x).handOver = s.handOver := rfl
@[simp] theorem State.setSlot_pending : (s.setSlot i x).pending = s.pending := rfl
end

/-! ### State.setNode -/

section
variable (s : State) (i j : NodeId) (x : NodeRecord)
@[simp] theorem State.setNode_node_self : (s.setNode i x).node i = x := vget_vset_self _ _ _
theorem State.setNode_node_ne (h : i ≠ j) : (s.setNode i x).node j = s.node j := vget_vset_ne _ _ _ _ h
@[simp] theorem State.setNode_regs : (s.setNode i x).regs = s.regs := rfl
@[simp] theorem State.setNode_params : (s.setNode i x).params = s.params := rfl
@[simp] theorem State.setNode_timebase : (s.setNode i x).timebase = s.timebase := rfl
@[simp] theorem State.setNode_host : (s.setNode i x).host = s.host := rfl
@[simp] theorem State.setNode_rings : (s.setNode i x).rings = s.rings := rfl
@[simp] theorem State.setNode_admin : (s.setNode i x).admin = s.admin := rfl
@[simp] theorem State.setNode_jobs : (s.setNode i x).jobs = s.jobs := rfl
@[simp] theorem State.setNode_lists : (s.setNode i x).lists = s.lists := rfl
@[simp] theorem State.setNode_window : (s.setNode i x).window = s.window := rfl
@[simp] theorem State.setNode_deferral : (s.setNode i x).deferral = s.deferral := rfl
@[simp] theorem State.setNode_loop : (s.setNode i x).loop = s.loop := rfl
@[simp] theorem State.setNode_queryRefused : (s.setNode i x).queryRefused = s.queryRefused := rfl
@[simp] theorem State.setNode_attention : (s.setNode i x).attention = s.attention := rfl
@[simp] theorem State.setNode_slots : (s.setNode i x).slots = s.slots := rfl
@[simp] theorem State.setNode_notices : (s.setNode i x).notices = s.notices := rfl
@[simp] theorem State.setNode_handOver : (s.setNode i x).handOver = s.handOver := rfl
@[simp] theorem State.setNode_pending : (s.setNode i x).pending = s.pending := rfl
end

/-! ### State.setEntry -/

section
variable (s : State) (i j : DeferId) (x : DeferEntry)
@[simp] theorem State.setEntry_entry_self : (s.setEntry i x).entry i = x := vget_vset_self _ _ _
theorem State.setEntry_entry_ne (h : i ≠ j) : (s.setEntry i x).entry j = s.entry j := vget_vset_ne _ _ _ _ h
@[simp] theorem State.setEntry_regs : (s.setEntry i x).regs = s.regs := rfl
@[simp] theorem State.setEntry_params : (s.setEntry i x).params = s.params := rfl
@[simp] theorem State.setEntry_timebase : (s.setEntry i x).timebase = s.timebase := rfl
@[simp] theorem State.setEntry_host : (s.setEntry i x).host = s.host := rfl
@[simp] theorem State.setEntry_rings : (s.setEntry i x).rings = s.rings := rfl
@[simp] theorem State.setEntry_admin : (s.setEntry i x).admin = s.admin := rfl
@[simp] theorem State.setEntry_jobs : (s.setEntry i x).jobs = s.jobs := rfl
@[simp] theorem State.setEntry_lists : (s.setEntry i x).lists = s.lists := rfl
@[simp] theorem State.setEntry_window : (s.setEntry i x).window = s.window := rfl
@[simp] theorem State.setEntry_loop : (s.setEntry i x).loop = s.loop := rfl
@[simp] theorem State.setEntry_nodes : (s.setEntry i x).nodes = s.nodes := rfl
@[simp] theorem State.setEntry_queryRefused : (s.setEntry i x).queryRefused = s.queryRefused := rfl
@[simp] theorem State.setEntry_attention : (s.setEntry i x).attention = s.attention := rfl
@[simp] theorem State.setEntry_slots : (s.setEntry i x).slots = s.slots := rfl
@[simp] theorem State.setEntry_notices : (s.setEntry i x).notices = s.notices := rfl
@[simp] theorem State.setEntry_handOver : (s.setEntry i x).handOver = s.handOver := rfl
@[simp] theorem State.setEntry_pending : (s.setEntry i x).pending = s.pending := rfl
end

/-! ### State.setHeldOver -/

section
variable (s : State) (i j : NodeId) (x : BitVec 16)
@[simp] theorem State.setHeldOver_heldOver_self : (s.setHeldOver i x).heldOver i = x := vget_vset_self _ _ _
theorem State.setHeldOver_heldOver_ne (h : i ≠ j) : (s.setHeldOver i x).heldOver j = s.heldOver j := vget_vset_ne _ _ _ _ h
@[simp] theorem State.setHeldOver_regs : (s.setHeldOver i x).regs = s.regs := rfl
@[simp] theorem State.setHeldOver_params : (s.setHeldOver i x).params = s.params := rfl
@[simp] theorem State.setHeldOver_timebase : (s.setHeldOver i x).timebase = s.timebase := rfl
@[simp] theorem State.setHeldOver_host : (s.setHeldOver i x).host = s.host := rfl
@[simp] theorem State.setHeldOver_rings : (s.setHeldOver i x).rings = s.rings := rfl
@[simp] theorem State.setHeldOver_admin : (s.setHeldOver i x).admin = s.admin := rfl
@[simp] theorem State.setHeldOver_jobs : (s.setHeldOver i x).jobs = s.jobs := rfl
@[simp] theorem State.setHeldOver_lists : (s.setHeldOver i x).lists = s.lists := rfl
@[simp] theorem State.setHeldOver_window : (s.setHeldOver i x).window = s.window := rfl
@[simp] theorem State.setHeldOver_loop : (s.setHeldOver i x).loop = s.loop := rfl
@[simp] theorem State.setHeldOver_nodes : (s.setHeldOver i x).nodes = s.nodes := rfl
@[simp] theorem State.setHeldOver_queryRefused : (s.setHeldOver i x).queryRefused = s.queryRefused := rfl
@[simp] theorem State.setHeldOver_attention : (s.setHeldOver i x).attention = s.attention := rfl
@[simp] theorem State.setHeldOver_slots : (s.setHeldOver i x).slots = s.slots := rfl
@[simp] theorem State.setHeldOver_notices : (s.setHeldOver i x).notices = s.notices := rfl
@[simp] theorem State.setHeldOver_handOver : (s.setHeldOver i x).handOver = s.handOver := rfl
@[simp] theorem State.setHeldOver_pending : (s.setHeldOver i x).pending = s.pending := rfl
end

/-! ### State.setTag -/

section
variable (s : State) (i j : Tag) (x : Option Transaction)
@[simp] theorem State.setTag_tag_self : (s.setTag i x).tag i = x := vget_vset_self _ _ _
theorem State.setTag_tag_ne (h : i ≠ j) : (s.setTag i x).tag j = s.tag j := vget_vset_ne _ _ _ _ h
@[simp] theorem State.setTag_regs : (s.setTag i x).regs = s.regs := rfl
@[simp] theorem State.setTag_params : (s.setTag i x).params = s.params := rfl
@[simp] theorem State.setTag_timebase : (s.setTag i x).timebase = s.timebase := rfl
@[simp] theorem State.setTag_host : (s.setTag i x).host = s.host := rfl
@[simp] theorem State.setTag_rings : (s.setTag i x).rings = s.rings := rfl
@[simp] theorem State.setTag_admin : (s.setTag i x).admin = s.admin := rfl
@[simp] theorem State.setTag_jobs : (s.setTag i x).jobs = s.jobs := rfl
@[simp] theorem State.setTag_lists : (s.setTag i x).lists = s.lists := rfl
@[simp] theorem State.setTag_deferral : (s.setTag i x).deferral = s.deferral := rfl
@[simp] theorem State.setTag_loop : (s.setTag i x).loop = s.loop := rfl
@[simp] theorem State.setTag_nodes : (s.setTag i x).nodes = s.nodes := rfl
@[simp] theorem State.setTag_queryRefused : (s.setTag i x).queryRefused = s.queryRefused := rfl
@[simp] theorem State.setTag_attention : (s.setTag i x).attention = s.attention := rfl
@[simp] theorem State.setTag_slots : (s.setTag i x).slots = s.slots := rfl
@[simp] theorem State.setTag_notices : (s.setTag i x).notices = s.notices := rfl
@[simp] theorem State.setTag_handOver : (s.setTag i x).handOver = s.handOver := rfl
@[simp] theorem State.setTag_pending : (s.setTag i x).pending = s.pending := rfl
end

/-! ### The other updates -/

section
variable (s : State) (c : CtxId) (f : Context → Context)
@[simp] theorem State.modCtx_regs : (s.modCtx c f).regs = s.regs := rfl
@[simp] theorem State.modCtx_params : (s.modCtx c f).params = s.params := rfl
@[simp] theorem State.modCtx_timebase : (s.modCtx c f).timebase = s.timebase := rfl
@[simp] theorem State.modCtx_host : (s.modCtx c f).host = s.host := rfl
@[simp] theorem State.modCtx_rings : (s.modCtx c f).rings = s.rings := rfl
@[simp] theorem State.modCtx_admin : (s.modCtx c f).admin = s.admin := rfl
@[simp] theorem State.modCtx_lists : (s.modCtx c f).lists = s.lists := rfl
@[simp] theorem State.modCtx_window : (s.modCtx c f).window = s.window := rfl
@[simp] theorem State.modCtx_deferral : (s.modCtx c f).deferral = s.deferral := rfl
@[simp] theorem State.modCtx_loop : (s.modCtx c f).loop = s.loop := rfl
@[simp] theorem State.modCtx_nodes : (s.modCtx c f).nodes = s.nodes := rfl
@[simp] theorem State.modCtx_queryRefused : (s.modCtx c f).queryRefused = s.queryRefused := rfl
@[simp] theorem State.modCtx_attention : (s.modCtx c f).attention = s.attention := rfl
@[simp] theorem State.modCtx_slots : (s.modCtx c f).slots = s.slots := rfl
@[simp] theorem State.modCtx_notices : (s.modCtx c f).notices = s.notices := rfl
@[simp] theorem State.modCtx_handOver : (s.modCtx c f).handOver = s.handOver := rfl
@[simp] theorem State.modCtx_pending : (s.modCtx c f).pending = s.pending := rfl
end

section
variable (s : State) (n : NodeId) (f : NodeRecord → NodeRecord)
@[simp] theorem State.modNode_regs : (s.modNode n f).regs = s.regs := rfl
@[simp] theorem State.modNode_params : (s.modNode n f).params = s.params := rfl
@[simp] theorem State.modNode_timebase : (s.modNode n f).timebase = s.timebase := rfl
@[simp] theorem State.modNode_host : (s.modNode n f).host = s.host := rfl
@[simp] theorem State.modNode_rings : (s.modNode n f).rings = s.rings := rfl
@[simp] theorem State.modNode_admin : (s.modNode n f).admin = s.admin := rfl
@[simp] theorem State.modNode_jobs : (s.modNode n f).jobs = s.jobs := rfl
@[simp] theorem State.modNode_lists : (s.modNode n f).lists = s.lists := rfl
@[simp] theorem State.modNode_window : (s.modNode n f).window = s.window := rfl
@[simp] theorem State.modNode_deferral : (s.modNode n f).deferral = s.deferral := rfl
@[simp] theorem State.modNode_loop : (s.modNode n f).loop = s.loop := rfl
@[simp] theorem State.modNode_queryRefused : (s.modNode n f).queryRefused = s.queryRefused := rfl
@[simp] theorem State.modNode_attention : (s.modNode n f).attention = s.attention := rfl
@[simp] theorem State.modNode_slots : (s.modNode n f).slots = s.slots := rfl
@[simp] theorem State.modNode_notices : (s.modNode n f).notices = s.notices := rfl
@[simp] theorem State.modNode_handOver : (s.modNode n f).handOver = s.handOver := rfl
@[simp] theorem State.modNode_pending : (s.modNode n f).pending = s.pending := rfl
end

section
variable (s : State) (x : EventRing)
@[simp] theorem State.setEventRing_regs : (s.setEventRing x).regs = s.regs := rfl
@[simp] theorem State.setEventRing_params : (s.setEventRing x).params = s.params := rfl
@[simp] theorem State.setEventRing_timebase : (s.setEventRing x).timebase = s.timebase := rfl
@[simp] theorem State.setEventRing_host : (s.setEventRing x).host = s.host := rfl
@[simp] theorem State.setEventRing_admin : (s.setEventRing x).admin = s.admin := rfl
@[simp] theorem State.setEventRing_jobs : (s.setEventRing x).jobs = s.jobs := rfl
@[simp] theorem State.setEventRing_handOver : (s.setEventRing x).handOver = s.handOver := rfl
@[simp] theorem State.setEventRing_lists : (s.setEventRing x).lists = s.lists := rfl
@[simp] theorem State.setEventRing_window : (s.setEventRing x).window = s.window := rfl
@[simp] theorem State.setEventRing_deferral : (s.setEventRing x).deferral = s.deferral := rfl
@[simp] theorem State.setEventRing_loop : (s.setEventRing x).loop = s.loop := rfl
@[simp] theorem State.setEventRing_nodes : (s.setEventRing x).nodes = s.nodes := rfl
@[simp] theorem State.setEventRing_queryRefused : (s.setEventRing x).queryRefused = s.queryRefused := rfl
@[simp] theorem State.setEventRing_attention : (s.setEventRing x).attention = s.attention := rfl
@[simp] theorem State.setEventRing_slots : (s.setEventRing x).slots = s.slots := rfl
@[simp] theorem State.setEventRing_notices : (s.setEventRing x).notices = s.notices := rfl
@[simp] theorem State.setEventRing_pending : (s.setEventRing x).pending = s.pending := rfl
end

section
variable (s : State) (n : NodeId) (t : Tag) (b : Bool)
@[simp] theorem State.setDoubt_regs : (s.setDoubt n t b).regs = s.regs := rfl
@[simp] theorem State.setDoubt_params : (s.setDoubt n t b).params = s.params := rfl
@[simp] theorem State.setDoubt_timebase : (s.setDoubt n t b).timebase = s.timebase := rfl
@[simp] theorem State.setDoubt_host : (s.setDoubt n t b).host = s.host := rfl
@[simp] theorem State.setDoubt_rings : (s.setDoubt n t b).rings = s.rings := rfl
@[simp] theorem State.setDoubt_admin : (s.setDoubt n t b).admin = s.admin := rfl
@[simp] theorem State.setDoubt_jobs : (s.setDoubt n t b).jobs = s.jobs := rfl
@[simp] theorem State.setDoubt_lists : (s.setDoubt n t b).lists = s.lists := rfl
@[simp] theorem State.setDoubt_deferral : (s.setDoubt n t b).deferral = s.deferral := rfl
@[simp] theorem State.setDoubt_loop : (s.setDoubt n t b).loop = s.loop := rfl
@[simp] theorem State.setDoubt_nodes : (s.setDoubt n t b).nodes = s.nodes := rfl
@[simp] theorem State.setDoubt_queryRefused : (s.setDoubt n t b).queryRefused = s.queryRefused := rfl
@[simp] theorem State.setDoubt_attention : (s.setDoubt n t b).attention = s.attention := rfl
@[simp] theorem State.setDoubt_slots : (s.setDoubt n t b).slots = s.slots := rfl
@[simp] theorem State.setDoubt_notices : (s.setDoubt n t b).notices = s.notices := rfl
@[simp] theorem State.setDoubt_handOver : (s.setDoubt n t b).handOver = s.handOver := rfl
@[simp] theorem State.setDoubt_pending : (s.setDoubt n t b).pending = s.pending := rfl
end

@[simp] theorem State.setEventRing_event (s : State) (x : EventRing) : (s.setEventRing x).rings.event = x := rfl
@[simp] theorem State.modCtx_ctx_self (s : State) (c : CtxId) (f : Context → Context) :
    (s.modCtx c f).ctx c = f (s.ctx c) := vget_vset_self _ _ _
@[simp] theorem State.modNode_node_self (s : State) (n : NodeId) (f : NodeRecord → NodeRecord) :
    (s.modNode n f).node n = f (s.node n) := vget_vset_self _ _ _

end Sys2Proof.Machine
end

