-- ==== Sys2Proof/Laws/Base.lean ====
section
/-! SUPPORT. What no operation of the part's own reactions touches: the registers, the parameters, the timebase, the MSI-X
flags and the queue of commands. One lemma for each operation, up to `react`. -/

namespace Sys2Proof.Machine

/-- The blocks that the operations below leave alone. -/
structure Base where
  regs : Regs
  params : Params
  timebase : Instant
  host : HostPort
  pending : List Instr

/-- Those blocks of a state. -/
def State.base (s : State) : Base :=
  { regs := s.regs, params := s.params, timebase := s.timebase, host := s.host, pending := s.pending }

/-- A fold of operations that leave the base alone leaves it alone. -/
theorem base_foldl {α : Type} (f : State → α → State) (h : ∀ s a, (f s a).base = s.base) :
    ∀ (l : List α) (s : State), (l.foldl f s).base = s.base
  | [], _ => rfl
  | a :: l, s => by rw [List.foldl_cons, base_foldl f h l, h]

/-- The state a start comes to, whether it waits or has ended. -/
def Begun.state : Begun → State
  | .waits s => s
  | .ends _ s => s

@[simp] theorem Begun.state_waits (s : State) : (Begun.waits s).state = s := rfl
@[simp] theorem Begun.state_ends (e : StepEnd) (s : State) : (Begun.ends e s).state = s := rfl


/-! ### Machine/Ops.lean -/

@[simp] theorem State.setRings_base (s : State) (x : RingEngine) : (s.setRings x).base = s.base := rfl
@[simp] theorem State.setAdmin_base (s : State) (x : AdminUnit) : (s.setAdmin x).base = s.base := rfl
@[simp] theorem State.setJobs_base (s : State) (x : Vector Context 16) : (s.setJobs x).base = s.base := rfl
@[simp] theorem State.setHandOver_base (s : State) (x : List CtxId) : (s.setHandOver x).base = s.base := rfl
@[simp] theorem State.setLists_base (s : State) (x : Vector StoredList 64) : (s.setLists x).base = s.base := rfl
@[simp] theorem State.setWindow_base (s : State) (x : Window) : (s.setWindow x).base = s.base := rfl
@[simp] theorem State.setDeferral_base (s : State) (x : DeferTable) : (s.setDeferral x).base = s.base := rfl
@[simp] theorem State.setLoop_base (s : State) (x : LoopController) : (s.setLoop x).base = s.base := rfl
@[simp] theorem State.setNodes_base (s : State) (x : NodeUnit) : (s.setNodes x).base = s.base := rfl
@[simp] theorem State.setQueryRefused_base (s : State) (x : BitVec 30) : (s.setQueryRefused x).base = s.base := rfl
@[simp] theorem State.setAttention_base (s : State) (x : AttentionUnit) : (s.setAttention x).base = s.base := rfl
@[simp] theorem State.setSlots_base (s : State) (x : Vector Slot 8) : (s.setSlots x).base = s.base := rfl
@[simp] theorem State.setNotices_base (s : State) (x : List Notice) : (s.setNotices x).base = s.base := rfl
@[simp] theorem State.setCtx_base (s : State) (c : CtxId) (x : Context) : (s.setCtx c x).base = s.base := rfl
@[simp] theorem State.modCtx_base (s : State) (c : CtxId) (f : Context → Context) :
    (s.modCtx c f).base = s.base := rfl
@[simp] theorem State.setStored_base (s : State) (id : ListId) (x : StoredList) :
    (s.setStored id x).base = s.base := rfl
@[simp] theorem State.setSubRing_base (s : State) (r : RingId) (x : SubRing) : (s.setSubRing r x).base = s.base := rfl
@[simp] theorem State.setCompRing_base (s : State) (k : RingId) (x : CompRing) :
    (s.setCompRing k x).base = s.base := rfl
@[simp] theorem State.setEventRing_base (s : State) (x : EventRing) : (s.setEventRing x).base = s.base := rfl
@[simp] theorem State.setCaptureRing_base (s : State) (k : SlotId) (x : CaptureRing) :
    (s.setCaptureRing k x).base = s.base := rfl
@[simp] theorem State.setSlot_base (s : State) (k : SlotId) (x : Slot) : (s.setSlot k x).base = s.base := rfl
@[simp] theorem State.setNode_base (s : State) (n : NodeId) (x : NodeRecord) : (s.setNode n x).base = s.base := rfl
@[simp] theorem State.modNode_base (s : State) (n : NodeId) (f : NodeRecord → NodeRecord) :
    (s.modNode n f).base = s.base := rfl
@[simp] theorem State.setEntry_base (s : State) (d : DeferId) (x : DeferEntry) : (s.setEntry d x).base = s.base := rfl
@[simp] theorem State.setHeldOver_base (s : State) (n : NodeId) (x : BitVec 16) :
    (s.setHeldOver n x).base = s.base := rfl
@[simp] theorem State.setTag_base (s : State) (t : Tag) (x : Option Transaction) : (s.setTag t x).base = s.base := rfl
@[simp] theorem State.setDoubt_base (s : State) (n : NodeId) (t : Tag) (b : Bool) :
    (s.setDoubt n t b).base = s.base := rfl
@[simp] theorem notify_base (subject : Subject) (body : NoticeBody) (s : State) :
    (notify subject body s).base = s.base := by
  unfold notify; (try dsimp only); (repeat' (split <;> try dsimp only)) <;> simp_all
@[simp] theorem notifyNode_base (n : NodeId) (reason : NodeReason) (sources : Byte) (s : State) :
    (notifyNode n reason sources s).base = s.base := by
  unfold notifyNode; (try dsimp only); (repeat' (split <;> try dsimp only)) <;> simp_all
@[simp] theorem notifyLoop_base (reason : LoopReason) (s : State) : (notifyLoop reason s).base = s.base := by
  unfold notifyLoop; (try dsimp only); (repeat' (split <;> try dsimp only)) <;> simp_all
@[simp] theorem notifySlot_base (k : SlotId) (reason : SlotReason) (s : State) :
    (notifySlot k reason s).base = s.base := by
  unfold notifySlot; (try dsimp only); (repeat' (split <;> try dsimp only)) <;> simp_all
@[simp] theorem takeReference_base (id : ListId) (s : State) : (takeReference id s).base = s.base := by
  unfold takeReference; (try dsimp only); (repeat' (split <;> try dsimp only)) <;> simp_all
@[simp] theorem releaseReference_base (id : ListId) (s : State) : (releaseReference id s).base = s.base := by
  unfold releaseReference; (try dsimp only); (repeat' (split <;> try dsimp only)) <;> simp_all
@[simp] theorem freeContext_base (c : CtxId) (s : State) : (freeContext c s).base = s.base := by
  unfold freeContext; (try dsimp only); (repeat' (split <;> try dsimp only)) <;> simp_all
@[simp] theorem clearAdmin_base (s : State) : (clearAdmin s).base = s.base := by
  unfold clearAdmin; (try dsimp only); (repeat' (split <;> try dsimp only)) <;> simp_all
@[simp] theorem releaseSource_base (p : PostedRecord) (s : State) : (releaseSource p s).base = s.base := by
  unfold releaseSource; (try dsimp only); (repeat' (split <;> try dsimp only)) <;> simp_all
@[simp] theorem handRecord_base (k : RingId) (p : PostedRecord) (s : State) : (handRecord k p s).base = s.base := by
  unfold handRecord; (try dsimp only); (repeat' (split <;> try dsimp only)) <;> simp_all
@[simp] theorem endAdmin_base (outcome : AdminOutcome) (detail : Option Nat) (s : State) :
    (endAdmin outcome detail s).base = s.base := by
  unfold endAdmin; (try dsimp only); (repeat' (split <;> try dsimp only)) <;> simp_all
@[simp] theorem waitAdmin_base (event : AdminWait) (s : State) : (waitAdmin event s).base = s.base := by
  unfold waitAdmin; (try dsimp only); (repeat' (split <;> try dsimp only)) <;> simp_all
@[simp] theorem releaseList_base (x : Context) (s : State) : (releaseList x s).base = s.base := by
  unfold releaseList; (try dsimp only); (repeat' (split <;> try dsimp only)) <;> simp_all
@[simp] theorem handJob_base (c : CtxId) (s : State) : (handJob c s).base = s.base := by
  unfold handJob; (try dsimp only); (repeat' (split <;> try dsimp only)) <;> simp_all
@[simp] theorem handNext_base (s : State) (c : CtxId) : (handNext s c).base = s.base := by
  unfold handNext; (try dsimp only); (repeat' (split <;> try dsimp only)) <;> simp_all
@[simp] theorem handOverRecords_base (s : State) : (handOverRecords s).base = s.base := by
  unfold handOverRecords; simp [base_foldl]
@[simp] theorem enterCompleting_base (c : CtxId) (outcome : JobOutcome) (s : State) :
    (enterCompleting c outcome s).base = s.base := by
  unfold enterCompleting; (try dsimp only); (repeat' (split <;> try dsimp only)) <;> simp_all
@[simp] theorem readOutlived_base (c : CtxId) (s : State) : (readOutlived c s).base = s.base := by
  unfold readOutlived; (try dsimp only); (repeat' (split <;> try dsimp only)) <;> simp_all

/-! ### Machine/AttentionOps.lean -/

@[simp] theorem State.modAttention_base (s : State) (key : Key) (f : AttentionEntry → AttentionEntry) :
    (s.modAttention key f).base = s.base := rfl
@[simp] theorem desiredChanged_base (n : NodeId) (s : State) : (desiredChanged n s).base = s.base := by
  unfold desiredChanged; (try dsimp only); (repeat' (split <;> try dsimp only)) <;> simp_all
@[simp] theorem enterPending_base (key : Key) (s : State) : (enterPending key s).base = s.base := by
  unfold enterPending; (try dsimp only); (repeat' (split <;> try dsimp only)) <;> simp_all
@[simp] theorem enterPosting_base (key : Key) (outcome : RunOutcome) (stopStep : Option Nat) (stopCause :
    Option Cause)
    (words : List Word) (s : State) : (enterPosting key outcome stopStep stopCause words s).base = s.base := by
  unfold enterPosting; (try dsimp only); (repeat' (split <;> try dsimp only)) <;> simp_all
@[simp] theorem fireEntry_base (e : AttentionEntry) (s : State) : (fireEntry e s).base = s.base := by
  unfold fireEntry; (try dsimp only); (repeat' (split <;> try dsimp only)) <;> simp_all
@[simp] theorem takeSource_base (key : Key) (s : State) : (takeSource key s).base = s.base := by
  unfold takeSource; (try dsimp only); (repeat' (split <;> try dsimp only)) <;> simp_all
@[simp] theorem takeSourceSet_base (n : NodeId) (set : Byte) (s : State) : (takeSourceSet n set s).base = s.base := by
  unfold takeSourceSet; (try dsimp only); (repeat' (split <;> try dsimp only)) <;> simp_all [base_foldl]
@[simp] theorem attentionRunEnds_base (key : Key) (e : RunEnding) (s : State) :
    (attentionRunEnds key e s).base = s.base := by
  unfold attentionRunEnds; (try dsimp only); (repeat' (split <;> try dsimp only)) <;> simp_all
@[simp] theorem postingEnds_base (key : Key) (s : State) : (postingEnds key s).base = s.base := by
  unfold postingEnds; (try dsimp only); (repeat' (split <;> try dsimp only)) <;> simp_all

/-! ### Machine/CyclicOps.lean -/

@[simp] theorem returnToIdle_base (k : SlotId) (s : State) : (returnToIdle k s).base = s.base := by
  unfold returnToIdle; (try dsimp only); (repeat' (split <;> try dsimp only)) <;> simp_all
@[simp] theorem finishSlotStop_base (k : SlotId) (s : State) : (finishSlotStop k s).base = s.base := by
  unfold finishSlotStop; (try dsimp only); (repeat' (split <;> try dsimp only)) <;> simp_all
@[simp] theorem suspendSlot_base (k : SlotId) (reason : SlotReason) (s : State) :
    (suspendSlot k reason s).base = s.base := by
  unfold suspendSlot; (try dsimp only); (repeat' (split <;> try dsimp only)) <;> simp_all
@[simp] theorem answerOffer_base (k : SlotId) (answer : OfferAnswer) (s : State) :
    (answerOffer k answer s).base = s.base := by
  unfold answerOffer; (try dsimp only); (repeat' (split <;> try dsimp only)) <;> simp_all
@[simp] theorem offerSnapshot_base (k : SlotId) (p : Snapshot) (s : State) : (offerSnapshot k p s).base = s.base := by
  unfold offerSnapshot; (try dsimp only); (repeat' (split <;> try dsimp only)) <;> simp_all
@[simp] theorem slotRunEnds_base (k : SlotId) (e : RunEnding) (s : State) : (slotRunEnds k e s).base = s.base := by
  unfold slotRunEnds; (try dsimp only); (repeat' (split <;> try dsimp only)) <;> simp_all
@[simp] theorem slotLoopRunning_base (k : SlotId) (s : State) : (slotLoopRunning k s).base = s.base := by
  unfold slotLoopRunning; (try dsimp only); (repeat' (split <;> try dsimp only)) <;> simp_all

/-! ### Machine/JobOps.lean -/

@[simp] theorem pushClaim_base (op : Operation) (s : State) : (pushClaim op s).base = s.base := by
  unfold pushClaim; (try dsimp only); (repeat' (split <;> try dsimp only)) <;> simp_all
@[simp] theorem endRun_base (c : CtxId) (s : State) : (endRun c s).base = s.base := by
  unfold endRun; (try dsimp only); (repeat' (split <;> try dsimp only)) <;> simp_all
@[simp] theorem endJob_base (c : CtxId) (s : State) : (endJob c s).base = s.base := by
  unfold endJob; (try dsimp only); (repeat' (split <;> try dsimp only)) <;> simp_all
@[simp] theorem claimOperation_base (c : CtxId) (p : Step) (n : NodeId) (s : State) :
    (claimOperation c p n s).state.base = s.base := by
  unfold claimOperation; (try dsimp only); (repeat' (split <;> try dsimp only)) <;> simp_all
@[simp] theorem beginStaging_base (c : CtxId) (p : Step) (s : State) : (beginStaging c p s).base = s.base := by
  unfold beginStaging; (try dsimp only); (repeat' (split <;> try dsimp only)) <;> simp_all
@[simp] theorem beginOperation_base (c : CtxId) (p : Step) (s : State) :
    (beginOperation c p s).state.base = s.base := by
  unfold beginOperation; (try dsimp only); (repeat' (split <;> try dsimp only)) <;> simp_all
@[simp] theorem beginStep_base (c : CtxId) (p : Step) (s : State) : (beginStep c p s).state.base = s.base := by
  unfold beginStep; (try dsimp only); (repeat' (split <;> try dsimp only)) <;> simp_all
theorem beginStep_waits {c : CtxId} {p : Step} {s t : State} (h : beginStep c p s = .waits t) : t.base = s.base := by
  have := beginStep_base c p s; rw [h] at this; exact this

theorem beginStep_ends {c : CtxId} {p : Step} {e : StepEnd} {s t : State} (h : beginStep c p s = .ends e t) :
    t.base = s.base := by
  have := beginStep_base c p s; rw [h] at this; exact this

theorem beginOperation_waits {c : CtxId} {p : Step} {s t : State} (h : beginOperation c p s = .waits t) :
    t.base = s.base := by
  have := beginOperation_base c p s; rw [h] at this; exact this

theorem beginOperation_ends {c : CtxId} {p : Step} {e : StepEnd} {s t : State}
    (h : beginOperation c p s = .ends e t) : t.base = s.base := by
  have := beginOperation_base c p s; rw [h] at this; exact this

@[simp] theorem runSteps_base (fuel : Nat) (c : CtxId) (s : State) : (runSteps fuel c s).base = s.base := by
  induction fuel generalizing s with
  | zero => rfl
  | succ n ih =>
    unfold runSteps
    split
    · exact endJob_base c s
    · split
      · exact beginStep_waits ‹_›
      · dsimp only
        split
        · rw [endJob_base, State.modCtx_base, beginStep_ends ‹_›]
        · rw [ih, State.modCtx_base, beginStep_ends ‹_›]

@[simp] theorem runList_base (c : CtxId) (s : State) : (runList c s).base = s.base := runSteps_base _ c s
@[simp] theorem endPending_base (c : CtxId) (s : State) : (endPending c s).base = s.base := by
  unfold endPending; (try dsimp only); (repeat' (split <;> try dsimp only)) <;> simp_all
@[simp] theorem afterStep_base (c : CtxId) (s : State) : (afterStep c s).base = s.base := by
  unfold afterStep; (try dsimp only); (repeat' (split <;> try dsimp only)) <;> simp_all
@[simp] theorem endStep_base (c : CtxId) (e : StepEnd) (s : State) : (endStep c e s).base = s.base := by
  unfold endStep; (try dsimp only); (repeat' (split <;> try dsimp only)) <;> simp_all
@[simp] theorem nextOperation_base (c : CtxId) (p : Step) (s : State) : (nextOperation c p s).base = s.base := by
  unfold nextOperation
  split
  · exact endPending_base c s
  · split
    · exact beginOperation_waits ‹_›
    · rw [endStep_base, beginOperation_ends ‹_›]
@[simp] theorem awaitPause_base (c : CtxId) (p : Step) (s : State) : (awaitPause c p s).base = s.base := by
  unfold awaitPause; (try dsimp only); (repeat' (split <;> try dsimp only)) <;> simp_all
@[simp] theorem finishDone_base (c : CtxId) (valid : Bool) (delivered : Nat) (s : State) :
    (finishDone c valid delivered s).base = s.base := by
  unfold finishDone; (try dsimp only); (repeat' (split <;> try dsimp only)) <;> simp_all
@[simp] theorem takeDone_base (c : CtxId) (valid : Bool) (delivered : Nat) (data : List Word) (s : State) :
    (takeDone c valid delivered data s).base = s.base := by
  unfold takeDone; (try dsimp only); (repeat' (split <;> try dsimp only)) <;> simp_all
@[simp] theorem deliver_base (c : CtxId) (o : Outcome) (s : State) : (deliver c o s).base = s.base := by
  unfold deliver; (try dsimp only); (repeat' (split <;> try dsimp only)) <;> simp_all
@[simp] theorem pauseLoopDown_base (c : CtxId) (s : State) : (pauseLoopDown c s).base = s.base := by
  unfold pauseLoopDown; (try dsimp only); (repeat' (split <;> try dsimp only)) <;> simp_all
@[simp] theorem startRun_base (c : CtxId) (owner : RunOwner) (id : ListId) (s : State) :
    (startRun c owner id s).base = s.base := by
  unfold startRun; (try dsimp only); (repeat' (split <;> try dsimp only)) <;> simp_all

/-! ### Machine/DeferralOps.lean -/

@[simp] theorem withdrawQueued_base (p : Operation → Bool) (s : State) : (withdrawQueued p s).base = s.base := by
  unfold withdrawQueued; (try dsimp only); (repeat' (split <;> try dsimp only)) <;> simp_all
@[simp] theorem withdrawHeld_base (p : Operation → Bool) (s : State) : (withdrawHeld p s).base = s.base := by
  unfold withdrawHeld; (try dsimp only); (repeat' (split <;> try dsimp only)) <;> simp_all
@[simp] theorem withdraw_base (o : Owner) (s : State) : (withdraw o s).base = s.base := by
  unfold withdraw; (try dsimp only); (repeat' (split <;> try dsimp only)) <;> simp_all
@[simp] theorem freeEntry_base (d : DeferId) (s : State) : (freeEntry d s).base = s.base := by
  unfold freeEntry; (try dsimp only); (repeat' (split <;> try dsimp only)) <;> simp_all
@[simp] theorem holdOver_base (n : NodeId) (d : DeferId) (b : Bool) (s : State) :
    (holdOver n d b s).base = s.base := by
  unfold holdOver; (try dsimp only); (repeat' (split <;> try dsimp only)) <;> simp_all
@[simp] theorem reserve_base (d : DeferId) (op : Operation) (s : State) : (reserve d op s).base = s.base := by
  unfold reserve; (try dsimp only); (repeat' (split <;> try dsimp only)) <;> simp_all
@[simp] theorem dropReservation_base (r : Option DeferId) (s : State) : (dropReservation r s).base = s.base := by
  unfold dropReservation; (try dsimp only); (repeat' (split <;> try dsimp only)) <;> simp_all
@[simp] theorem busyOrLimit_base (c : CtxId) (op : Operation) (s : State) : (busyOrLimit c op s).base = s.base := by
  unfold busyOrLimit; (try dsimp only); (repeat' (split <;> try dsimp only)) <;> simp_all
@[simp] theorem deliverResult_base (c : CtxId) (op : Option Operation) (r : DeferredResult) (s : State) :
    (deliverResult c op r s).base = s.base := by
  unfold deliverResult; (try dsimp only); (repeat' (split <;> try dsimp only)) <;> simp_all
@[simp] theorem orphanEntry_base (d : DeferId) (s : State) : (orphanEntry d s).base = s.base := by
  unfold orphanEntry; (try dsimp only); (repeat' (split <;> try dsimp only)) <;> simp_all
@[simp] theorem orphanOwned_base (c : CtxId) (s : State) : (orphanOwned c s).base = s.base := by
  unfold orphanOwned; (try dsimp only); (repeat' (split <;> try dsimp only)) <;> simp_all [base_foldl]
@[simp] theorem entryDeferred_base (c : CtxId) (d : DeferId) (op : Operation) (s : State) :
    (entryDeferred c d op s).base = s.base := by
  unfold entryDeferred; (try dsimp only); (repeat' (split <;> try dsimp only)) <;> simp_all
@[simp] theorem collected_base (n : NodeId) (d : DeferId) (r : DeferredResult) (s : State) :
    (collected n d r s).base = s.base := by
  unfold collected; (try dsimp only); (repeat' (split <;> try dsimp only)) <;> simp_all
@[simp] theorem cancelEnds_base (d : DeferId) (s : State) (freed held : Bool) :
    (cancelEnds d s freed held).base = s.base := by
  unfold cancelEnds; (try dsimp only); (repeat' (split <;> try dsimp only)) <;> simp_all
@[simp] theorem entryNodeLeft_base (n : NodeId) (s : State) (d : DeferId) : (entryNodeLeft n s d).base = s.base := by
  unfold entryNodeLeft; (try dsimp only); (repeat' (split <;> try dsimp only)) <;> simp_all
@[simp] theorem entryNodeReset_base (n : NodeId) (s : State) (d : DeferId) :
    (entryNodeReset n s d).base = s.base := by
  unfold entryNodeReset; (try dsimp only); (repeat' (split <;> try dsimp only)) <;> simp_all
@[simp] theorem entryLoopDown_base (s : State) (d : DeferId) : (entryLoopDown s d).base = s.base := by
  unfold entryLoopDown; (try dsimp only); (repeat' (split <;> try dsimp only)) <;> simp_all
@[simp] theorem tableLoopDown_base (s : State) : (tableLoopDown s).base = s.base := by
  unfold tableLoopDown; (try dsimp only); (repeat' (split <;> try dsimp only)) <;> simp_all [base_foldl]

/-! ### Machine/LoopOps.lean -/

@[simp] theorem handFrame_base (f : Frame) (s : State) : (handFrame f s).base = s.base := by
  unfold handFrame; (try dsimp only); (repeat' (split <;> try dsimp only)) <;> simp_all
@[simp] theorem enterTraining_base (rate : RateCode) (s : State) : (enterTraining rate s).base = s.base := by
  unfold enterTraining; (try dsimp only); (repeat' (split <;> try dsimp only)) <;> simp_all
@[simp] theorem startRequest_base (s : State) : (startRequest s).base = s.base := by
  unfold startRequest; (try dsimp only); (repeat' (split <;> try dsimp only)) <;> simp_all
@[simp] theorem enterRunning_base (s : State) : (enterRunning s).base = s.base := by
  unfold enterRunning; (try dsimp only); (repeat' (split <;> try dsimp only)) <;> simp_all [base_foldl]
@[simp] theorem claimNextCensus_base (s : State) : (claimNextCensus s).base = s.base := by
  unfold claimNextCensus; (try dsimp only); (repeat' (split <;> try dsimp only)) <;> simp_all
@[simp] theorem beginCensus_base (byCommand : Bool) (s : State) : (beginCensus byCommand s).base = s.base := by
  unfold beginCensus; (try dsimp only); (repeat' (split <;> try dsimp only)) <;> simp_all
@[simp] theorem lock_base (s : State) : (lock s).base = s.base := by
  unfold lock; (try dsimp only); (repeat' (split <;> try dsimp only)) <;> simp_all
@[simp] theorem switchRate_base (s : State) : (switchRate s).base = s.base := by
  unfold switchRate; (try dsimp only); (repeat' (split <;> try dsimp only)) <;> simp_all
@[simp] theorem takeAgreedRate_base (agreed : RateCode) (s : State) : (takeAgreedRate agreed s).base = s.base := by
  unfold takeAgreedRate; (try dsimp only); (repeat' (split <;> try dsimp only)) <;> simp_all

/-! ### Machine/NodeOps.lean -/

@[simp] theorem nodeLeft_base (n : NodeId) (s : State) : (nodeLeft n s).base = s.base := by
  unfold nodeLeft; (try dsimp only); (repeat' (split <;> try dsimp only)) <;> simp_all [base_foldl]
@[simp] theorem countReturn_base (n : NodeId) (untouched : Bool) (s : State) :
    (countReturn n untouched s).base = s.base := by
  unfold countReturn; (try dsimp only); (repeat' (split <;> try dsimp only)) <;> simp_all
@[simp] theorem setQueryFlag_base (n : NodeId) (b : Bool) (s : State) : (setQueryFlag n b s).base = s.base := by
  unfold setQueryFlag; (try dsimp only); (repeat' (split <;> try dsimp only)) <;> simp_all
@[simp] theorem censusNews_base (n : NodeId) (before : NodeState) (changed : Bool) (s : State) :
    (censusNews n before changed s).base = s.base := by
  unfold censusNews; (try dsimp only); (repeat' (split <;> try dsimp only)) <;> simp_all
@[simp] theorem censusFound_base (n : NodeId) (i : Identity) (s : State) : (censusFound n i s).base = s.base := by
  unfold censusFound; (try dsimp only); (repeat' (split <;> try dsimp only)) <;> simp_all
@[simp] theorem censusEmpty_base (n : NodeId) (s : State) : (censusEmpty n s).base = s.base := by
  unfold censusEmpty; (try dsimp only); (repeat' (split <;> try dsimp only)) <;> simp_all
@[simp] theorem censusFailed_base (n : NodeId) (s : State) : (censusFailed n s).base = s.base := by
  unfold censusFailed; (try dsimp only); (repeat' (split <;> try dsimp only)) <;> simp_all
@[simp] theorem censusDone_base (byCommand : Bool) (s : State) : (censusDone byCommand s).base = s.base := by
  unfold censusDone; (try dsimp only); (repeat' (split <;> try dsimp only)) <;> simp_all
@[simp] theorem censusStep_base (s : State) : (censusStep s).base = s.base := by
  unfold censusStep; (try dsimp only); (repeat' (split <;> try dsimp only)) <;> simp_all
@[simp] theorem abandonCensus_base (s : State) : (abandonCensus s).base = s.base := by
  unfold abandonCensus; (try dsimp only); (repeat' (split <;> try dsimp only)) <;> simp_all
@[simp] theorem nodeResetDone_base (n : NodeId) (s : State) : (nodeResetDone n s).base = s.base := by
  unfold nodeResetDone; (try dsimp only); (repeat' (split <;> try dsimp only)) <;> simp_all [base_foldl]
@[simp] theorem nodeResetEnds_base (outcome : AdminOutcome) (s : State) :
    (nodeResetEnds outcome s).base = s.base := by
  unfold nodeResetEnds; (try dsimp only); (repeat' (split <;> try dsimp only)) <;> simp_all
@[simp] theorem maskDone_base (n : NodeId) (carried : Byte) (s : State) : (maskDone n carried s).base = s.base := by
  unfold maskDone; (try dsimp only); (repeat' (split <;> try dsimp only)) <;> simp_all
@[simp] theorem maskRefused_base (n : NodeId) (s : State) : (maskRefused n s).base = s.base := by
  unfold maskRefused; (try dsimp only); (repeat' (split <;> try dsimp only)) <;> simp_all

/-! ### Machine/WindowOps.lean -/

@[simp] theorem contextEnds_base (c : CtxId) (n : NodeId) (e : Ending) (s : State) :
    (contextEnds c n e s).base = s.base := by
  unfold contextEnds; (try dsimp only); (repeat' (split <;> try dsimp only)) <;> simp_all
@[simp] theorem queryEnds_base (n : NodeId) (e : Ending) (s : State) : (queryEnds n e s).base = s.base := by
  unfold queryEnds; (try dsimp only); (repeat' (split <;> try dsimp only)) <;> simp_all
@[simp] theorem maskEnds_base (n : NodeId) (carried : Byte) (e : Ending) (s : State) :
    (maskEnds n carried e s).base = s.base := by
  unfold maskEnds; (try dsimp only); (repeat' (split <;> try dsimp only)) <;> simp_all
@[simp] theorem collectEnds_base (n : NodeId) (e : Ending) (s : State) : (collectEnds n e s).base = s.base := by
  unfold collectEnds; (try dsimp only); (repeat' (split <;> try dsimp only)) <;> simp_all
@[simp] theorem cancelOpEnds_base (d : DeferId) (n : NodeId) (withdrawn : Bool) (e : Ending) (s : State) :
    (cancelOpEnds d n withdrawn e s).base = s.base := by
  unfold cancelOpEnds; (try dsimp only); (repeat' (split <;> try dsimp only)) <;> simp_all
@[simp] theorem censusEnds_base (n : NodeId) (e : Ending) (s : State) : (censusEnds n e s).base = s.base := by
  unfold censusEnds; (try dsimp only); (repeat' (split <;> try dsimp only)) <;> simp_all
@[simp] theorem resetEnds_base (n : NodeId) (e : Ending) (s : State) : (resetEnds n e s).base = s.base := by
  unfold resetEnds; (try dsimp only); (repeat' (split <;> try dsimp only)) <;> simp_all
@[simp] theorem ownerEnds_base (op : Operation) (carried : Byte) (withdrawn : Bool) (e : Ending) (s : State) :
    (ownerEnds op carried withdrawn e s).base = s.base := by
  unfold ownerEnds; (try dsimp only); (repeat' (split <;> try dsimp only)) <;> simp_all
@[simp] theorem endTransaction_base (t : Tag) (tr : Transaction) (e : Ending) (s : State) :
    (endTransaction t tr e s).base = s.base := by
  unfold endTransaction; (try dsimp only); (repeat' (split <;> try dsimp only)) <;> simp_all
@[simp] theorem endDoubtful_base (t : Tag) (tr : Transaction) (e : Ending) (s : State) :
    (endDoubtful t tr e s).base = s.base := by
  unfold endDoubtful; (try dsimp only); (repeat' (split <;> try dsimp only)) <;> simp_all
@[simp] theorem resend_base (t : Tag) (tr : Transaction) (corrupt : Bool) (s : State) :
    (resend t tr corrupt s).base = s.base := by
  unfold resend; (try dsimp only); (repeat' (split <;> try dsimp only)) <;> simp_all
@[simp] theorem corruptReturn_base (t : Tag) (tr : Transaction) (s : State) :
    (corruptReturn t tr s).base = s.base := by
  unfold corruptReturn; (try dsimp only); (repeat' (split <;> try dsimp only)) <;> simp_all
@[simp] theorem lostReturn_base (t : Tag) (tr : Transaction) (s : State) : (lostReturn t tr s).base = s.base := by
  unfold lostReturn; (try dsimp only); (repeat' (split <;> try dsimp only)) <;> simp_all
@[simp] theorem toggle_base (n : NodeId) (t : Tag) (s : State) : (toggle n t s).base = s.base := by
  unfold toggle; (try dsimp only); (repeat' (split <;> try dsimp only)) <;> simp_all
@[simp] theorem settlePair_base (kind : FrameKind) (n : NodeId) (t : Tag) (status : ReplyStatus) (s : State) :
    (settlePair kind n t status s).base = s.base := by
  unfold settlePair; (try dsimp only); (repeat' (split <;> try dsimp only)) <;> simp_all
@[simp] theorem countKind_base (kind : FrameKind) (n : NodeId) (status : ReplyStatus) (s : State) :
    (countKind kind n status s).base = s.base := by
  unfold countKind; (try dsimp only); (repeat' (split <;> try dsimp only)) <;> simp_all
@[simp] theorem busyReturn_base (t : Tag) (tr : Transaction) (s : State) : (busyReturn t tr s).base = s.base := by
  unfold busyReturn; (try dsimp only); (repeat' (split <;> try dsimp only)) <;> simp_all
@[simp] theorem finalReturn_base (t : Tag) (tr : Transaction) (f : Frame) (s : State) :
    (finalReturn t tr f s).base = s.base := by
  unfold finalReturn; (try dsimp only); (repeat' (split <;> try dsimp only)) <;> simp_all
@[simp] theorem sendOwnFrame_base (t : Tag) (tr : Transaction) (s : State) : (sendOwnFrame t tr s).base = s.base := by
  unfold sendOwnFrame; (try dsimp only); (repeat' (split <;> try dsimp only)) <;> simp_all
@[simp] theorem probeReturn_base (t : Tag) (tr : Transaction) (f : Frame) (s : State) :
    (probeReturn t tr f s).base = s.base := by
  unfold probeReturn; (try dsimp only); (repeat' (split <;> try dsimp only)) <;> simp_all
@[simp] theorem goodReturn_base (t : Tag) (tr : Transaction) (f : Frame) (s : State) :
    (goodReturn t tr f s).base = s.base := by
  unfold goodReturn; (try dsimp only); (repeat' (split <;> try dsimp only)) <;> simp_all
@[simp] theorem holdTag_base (op : Operation) (t : Tag) (s : State) : (holdTag op t s).base = s.base := by
  unfold holdTag; (try dsimp only); (repeat' (split <;> try dsimp only)) <;> simp_all
theorem grantOne_base (s : State) {t : State} (h : grantOne s = some t) : t.base = s.base := by
  unfold grantOne at h; (try dsimp only at h); (repeat' (split at h <;> try dsimp only at h))
    <;> (try simp only [Option.some.injEq, reduceCtorEq] at h) <;> (try subst h) <;> simp_all
theorem orderClaims_base (s : State) {t : State} (h : orderClaims s = some t) : t.base = s.base := by
  unfold orderClaims at h; (try dsimp only at h); (repeat' (split at h <;> try dsimp only at h))
    <;> (try simp only [Option.some.injEq, reduceCtorEq] at h) <;> (try subst h) <;> simp_all

/-! ### Machine/LoopDown.lean -/

@[simp] theorem transactionLoopDown_base (s : State) (tr : Transaction) :
    (transactionLoopDown s tr).base = s.base := by
  unfold transactionLoopDown; (try dsimp only); (repeat' (split <;> try dsimp only)) <;> simp_all
@[simp] theorem operationLoopDown_base (s : State) (op : Operation) : (operationLoopDown s op).base = s.base := by
  unfold operationLoopDown; (try dsimp only); (repeat' (split <;> try dsimp only)) <;> simp_all
@[simp] theorem dropQueued_base (s : State) : (dropQueued s).base = s.base := by
  unfold dropQueued; (try dsimp only); (repeat' (split <;> try dsimp only)) <;> simp_all
@[simp] theorem endQueued_base (s : State) : (endQueued s).base = s.base := by
  unfold endQueued; (try dsimp only); (repeat' (split <;> try dsimp only)) <;> simp_all [base_foldl]
@[simp] theorem freeWindow_base (s : State) : (freeWindow s).base = s.base := by
  unfold freeWindow; (try dsimp only); (repeat' (split <;> try dsimp only)) <;> simp_all [base_foldl]
@[simp] theorem emptyWindow_base (s : State) : (emptyWindow s).base = s.base := by
  unfold emptyWindow; (try dsimp only); (repeat' (split <;> try dsimp only)) <;> simp_all [base_foldl]
@[simp] theorem jobsLoopDown_base (s : State) : (jobsLoopDown s).base = s.base := by
  unfold jobsLoopDown; (try dsimp only); (repeat' (split <;> try dsimp only)) <;> simp_all [base_foldl]
@[simp] theorem tellBroken_base (s : State) : (tellBroken s).base = s.base := by
  unfold tellBroken; (try dsimp only); (repeat' (split <;> try dsimp only)) <;> simp_all
@[simp] theorem enterBroken_base (reason : LoopReason) (s : State) : (enterBroken reason s).base = s.base := by
  unfold enterBroken; (try dsimp only); (repeat' (split <;> try dsimp only)) <;> simp_all
@[simp] theorem failLoopStart_base (reason : LoopReason) (s : State) : (failLoopStart reason s).base = s.base := by
  unfold failLoopStart; (try dsimp only); (repeat' (split <;> try dsimp only)) <;> simp_all
@[simp] theorem loopBreak_base (reason : LoopReason) (s : State) : (loopBreak reason s).base = s.base := by
  unfold loopBreak; (try dsimp only); (repeat' (split <;> try dsimp only)) <;> simp_all
@[simp] theorem trainingFails_base (s : State) : (trainingFails s).base = s.base := by
  unfold trainingFails; (try dsimp only); (repeat' (split <;> try dsimp only)) <;> simp_all
@[simp] theorem stopRequest_base (s : State) : (stopRequest s).base = s.base := by
  unfold stopRequest; (try dsimp only); (repeat' (split <;> try dsimp only)) <;> simp_all
@[simp] theorem enterOff_base (s : State) : (enterOff s).base = s.base := by
  unfold enterOff; (try dsimp only); (repeat' (split <;> try dsimp only)) <;> simp_all
@[simp] theorem faultRing_base (k : RingId) (addr : Addr) (s : State) : (faultRing k addr s).base = s.base := by
  unfold faultRing; (try dsimp only); (repeat' (split <;> try dsimp only)) <;> simp_all [base_foldl]
@[simp] theorem fatalEndsWait_base (s : State) : (fatalEndsWait s).base = s.base := by
  unfold fatalEndsWait; (try dsimp only); (repeat' (split <;> try dsimp only)) <;> simp_all
@[simp] theorem fatalOff_base (s : State) : (fatalOff s).base = s.base := by
  unfold fatalOff; (try dsimp only); (repeat' (split <;> try dsimp only)) <;> simp_all

/-! ### Machine/ReachOps.lean -/

@[simp] theorem setPending_base (c : CtxId) (p : Pending) (s : State) : (setPending c p s).base = s.base := by
  unfold setPending; (try dsimp only); (repeat' (split <;> try dsimp only)) <;> simp_all
@[simp] theorem reachJob_base (c : CtxId) (p : Pending) (s : State) : (reachJob c p s).base = s.base := by
  unfold reachJob; (try dsimp only); (repeat' (split <;> try dsimp only)) <;> simp_all
@[simp] theorem reachAll_base (cs : List CtxId) (p : Pending) (s : State) : (reachAll cs p s).base = s.base := by
  unfold reachAll; (try dsimp only); (repeat' (split <;> try dsimp only)) <;> simp_all [base_foldl]
@[simp] theorem endAdmission_base (c : CtxId) (s : State) : (endAdmission c s).base = s.base := by
  unfold endAdmission; (try dsimp only); (repeat' (split <;> try dsimp only)) <;> simp_all
@[simp] theorem acquireStored_base (c : CtxId) (id : ListId) (s : State) : (acquireStored c id s).base = s.base := by
  unfold acquireStored; (try dsimp only); (repeat' (split <;> try dsimp only)) <;> simp_all
@[simp] theorem admitEntry_base (c : CtxId) (e : JobEntry) (r : RingId) (s : State) : (admitEntry c e r s).base = s.base := by
  unfold admitEntry; (try dsimp only); (repeat' (split <;> try dsimp only)) <;> simp_all
@[simp] theorem inlineRead_base (c : CtxId) (bytes : List Byte) (s : State) :
    (inlineRead c bytes s).base = s.base := by
  unfold inlineRead; (try dsimp only); (repeat' (split <;> try dsimp only)) <;> simp_all

/-! ### Machine/Settle.lean -/

theorem settleOff_base (s : State) {t : State} (h : settleOff s = some t) : t.base = s.base := by
  unfold settleOff at h; (try dsimp only at h); (repeat' (split at h <;> try dsimp only at h))
    <;> (try simp only [Option.some.injEq, reduceCtorEq] at h) <;> (try subst h) <;> simp_all
@[simp] theorem removeSubRing_base (r : RingId) (s : State) : (removeSubRing r s).base = s.base := by
  unfold removeSubRing; (try dsimp only); (repeat' (split <;> try dsimp only)) <;> simp_all
theorem settleDrained_base (s : State) {t : State} (h : settleDrained s = some t) : t.base = s.base := by
  unfold settleDrained at h; (try dsimp only at h); (repeat' (split at h <;> try dsimp only at h))
    <;> (try simp only [Option.some.injEq, reduceCtorEq] at h) <;> (try subst h) <;> simp_all
theorem settleAttention_base (s : State) {t : State} (h : settleAttention s = some t) : t.base = s.base := by
  unfold settleAttention at h; (try dsimp only at h); (repeat' (split at h <;> try dsimp only at h))
    <;> (try simp only [Option.some.injEq, reduceCtorEq] at h) <;> (try subst h) <;> simp_all
theorem settleMask_base (s : State) {t : State} (h : settleMask s = some t) : t.base = s.base := by
  unfold settleMask at h; (try dsimp only at h); (repeat' (split at h <;> try dsimp only at h))
    <;> (try simp only [Option.some.injEq, reduceCtorEq] at h) <;> (try subst h) <;> simp_all
@[simp] theorem beginPost_base (k : RingId) (s : State) : (beginPost k s).base = s.base := by
  unfold beginPost; (try dsimp only); (repeat' (split <;> try dsimp only)) <;> simp_all
theorem settlePost_base (s : State) {t : State} (h : settlePost s = some t) : t.base = s.base := by
  unfold settlePost at h; (try dsimp only at h); (repeat' (split at h <;> try dsimp only at h))
    <;> (try simp only [Option.some.injEq, reduceCtorEq] at h) <;> (try subst h) <;> simp_all
theorem settleEvent_base (s : State) {t : State} (h : settleEvent s = some t) : t.base = s.base := by
  unfold settleEvent at h; (try dsimp only at h); (repeat' (split at h <;> try dsimp only at h))
    <;> (try simp only [Option.some.injEq, reduceCtorEq] at h) <;> (try subst h) <;> simp_all
theorem settleFetch_base (s : State) {t : State} (h : settleFetch s = some t) : t.base = s.base := by
  unfold settleFetch at h; (try dsimp only at h); (repeat' (split at h <;> try dsimp only at h))
    <;> (try simp only [Option.some.injEq, reduceCtorEq] at h) <;> (try subst h) <;> simp_all
theorem settleAdminFetch_base (s : State) {t : State} (h : settleAdminFetch s = some t) : t.base = s.base := by
  unfold settleAdminFetch at h; (try dsimp only at h); (repeat' (split at h <;> try dsimp only at h))
    <;> (try simp only [Option.some.injEq, reduceCtorEq] at h) <;> (try subst h) <;> simp_all
theorem settleStep_base (s : State) {t : State} (h : settleStep s = some t) : t.base = s.base := by
  unfold settleStep at h
  simp only [Option.orElse_eq_orElse, Option.orElse_eq_or, Option.or_eq_some_iff] at h
  rcases h with h | ⟨-, h | ⟨-, h | ⟨-, h | ⟨-, h | ⟨-, h | ⟨-, h | ⟨-, h | ⟨-, h | ⟨-, h⟩⟩⟩⟩⟩⟩⟩⟩⟩
  · exact settleOff_base s h
  · exact settleDrained_base s h
  · exact settleAttention_base s h
  · exact settleMask_base s h
  · exact orderClaims_base s h
  · exact grantOne_base s h
  · exact settlePost_base s h
  · exact settleEvent_base s h
  · exact settleFetch_base s h
  · exact settleAdminFetch_base s h

theorem settle_base (fuel : Nat) (s : State) : (settle fuel s).base = s.base := by
  induction fuel generalizing s with
  | zero => rfl
  | succ n ih =>
    unfold settle
    split
    · rw [ih, settleStep_base s ‹_›]
    · rfl

@[simp] theorem react_base (s : State) : (react s).base = s.base := settle_base _ s

@[simp] theorem react_regs (s : State) : (react s).regs = s.regs := congrArg Base.regs (react_base s)
@[simp] theorem react_params (s : State) : (react s).params = s.params := congrArg Base.params (react_base s)
@[simp] theorem react_timebase (s : State) : (react s).timebase = s.timebase := congrArg Base.timebase (react_base s)
@[simp] theorem react_host (s : State) : (react s).host = s.host := congrArg Base.host (react_base s)
@[simp] theorem react_pending (s : State) : (react s).pending = s.pending := congrArg Base.pending (react_base s)

/-- A property that every reaction keeps holds after them all: the one induction over what follows an event. -/
theorem react_keeps (P : State → Prop) (h : ∀ s t, settleStep s = some t → P s → P t) {s : State} (hs : P s) :
    P (react s) := by
  unfold react
  generalize 4096 = fuel
  induction fuel generalizing s with
  | zero => exact hs
  | succ n ih =>
    unfold settle
    split
    · exact ih (h _ _ ‹_› hs)
    · exact hs

end Sys2Proof.Machine
end

