-- ==== Sys2Proof/Laws/Ops.lean ====
section
/-! SUPPORT. What the shared operations come to, said once: table entries, the checks on sizes, ranges and indices, notices,
messages, list references, completion records, the command in progress, attention entries, fields of bytes, the
transmitter, handing records over, and the reactions at rest. -/

namespace Sys2Proof.Machine

/-! ### Tables and bits -/

@[simp] theorem vset_vset {α : Type} {n : Nat} (v : Vector α n) (i : Fin n) (x y : α) :
    vset (vset v i x) i y = vset v i y := by simp [vset]

@[simp] theorem vset_vget {α : Type} {n : Nat} (v : Vector α n) (i : Fin n) : vset v i (vget v i) = v := by
  simp [vset, vget]

@[simp] theorem State.setCtx_setCtx (s : State) (c : CtxId) (x y : Context) :
    (s.setCtx c x).setCtx c y = s.setCtx c y := by simp [State.setCtx, State.setJobs]

@[simp] theorem State.setSlot_setSlot (s : State) (k : SlotId) (x y : Slot) :
    (s.setSlot k x).setSlot k y = s.setSlot k y := by simp [State.setSlot, State.setSlots]

@[simp] theorem State.setNode_setNode (s : State) (n : NodeId) (x y : NodeRecord) :
    (s.setNode n x).setNode n y = s.setNode n y := by simp [State.setNode, State.setNodes]

/-- A bit after a bit has been set or cleared. -/
theorem setBit_getLsbD {w : Nat} (v : BitVec w) (i j : Nat) (b : Bool) (h : i < w) :
    (setBit v i b).getLsbD j = if j = i then b else v.getLsbD j := by
  have key : (BitVec.ofNat w (2 ^ i)).getLsbD j = decide (i = j) := by
    rw [BitVec.getLsbD_ofNat]
    by_cases hj : j < w
    · simp [hj, Nat.testBit_two_pow]
    · have : i ≠ j := by omega
      simp [hj, this]
  have not_key : (~~~ BitVec.ofNat w (2 ^ i)).getLsbD j = (decide (j < w) && !decide (i = j)) := by
    rw [BitVec.getLsbD_not, key]
  by_cases hj : j = i
  · subst hj
    cases b
    · simp only [setBit, Bool.false_eq_true, if_false, if_true, BitVec.getLsbD_and, not_key, decide_true, Bool.not_true,
        Bool.and_false]
    · simp only [setBit, if_true, BitVec.getLsbD_or, key, decide_true, Bool.or_true]
  · have hij : ¬ i = j := fun e => hj e.symm
    cases b
    · simp only [setBit, Bool.false_eq_true, if_false, hj, BitVec.getLsbD_and, not_key, hij, decide_false, Bool.not_false,
        Bool.and_true]
      by_cases hw : j < w
      · simp only [hw, decide_true, Bool.and_true]
      · simp only [hw, decide_false, Bool.and_false, BitVec.getLsbD_of_ge v j (Nat.le_of_not_lt hw)]
    · simp only [setBit, if_true, if_false, hj, BitVec.getLsbD_or, key, hij, decide_false, Bool.or_false]

/-! ### Checks -/

/-- The ring sizes are the powers of two from 16 to 4096 (R124). -/
theorem isRingSize_iff (n : Nat) : isRingSize n = true ↔ RingSize n := by
  constructor
  · intro h
    simp [isRingSize] at h
    rcases h with h | h | h | h | h | h | h | h | h
    · exact ⟨4, by omega, by omega, by omega⟩
    · exact ⟨5, by omega, by omega, by omega⟩
    · exact ⟨6, by omega, by omega, by omega⟩
    · exact ⟨7, by omega, by omega, by omega⟩
    · exact ⟨8, by omega, by omega, by omega⟩
    · exact ⟨9, by omega, by omega, by omega⟩
    · exact ⟨10, by omega, by omega, by omega⟩
    · exact ⟨11, by omega, by omega, by omega⟩
    · exact ⟨12, by omega, by omega, by omega⟩
  · rintro ⟨k, h1, h2, rfl⟩
    rcases (by omega : k = 4 ∨ k = 5 ∨ k = 6 ∨ k = 7 ∨ k = 8 ∨ k = 9 ∨ k = 10 ∨ k = 11 ∨ k = 12) with
      rfl | rfl | rfl | rfl | rfl | rfl | rfl | rfl | rfl <;> decide

/-- The range check of the parameters is their table of bounds (R146). -/
theorem paramInRange_iff (p v : Nat) (h1 : 1 ≤ p) (h2 : p ≤ 7) : paramInRange p v = true ↔ ParamAllowed p v := by
  rcases (by omega : p = 1 ∨ p = 2 ∨ p = 3 ∨ p = 4 ∨ p = 5 ∨ p = 6 ∨ p = 7) with
    rfl | rfl | rfl | rfl | rfl | rfl | rfl <;> simp [paramInRange, ParamAllowed, paramBounds]

/-- The acceptance of a consumer index write (R132). -/
theorem consumerAccepted_iff (p c n v : Nat) : consumerAccepted p c n v = true ↔ TakesRecords p c n v := by
  rw [consumerAccepted, Bool.and_eq_true, decide_eq_true_iff, decide_eq_true_iff]
  rfl

/-- The index after an index below the size is below the size (R124). -/
theorem nextIndex_lt {i size : Nat} (h : i < size) : nextIndex i size < size := by
  unfold nextIndex
  split <;> omega

/-- A consumer index that is accepted does not make a ring full (R124, R132). -/
theorem consumerAccepted_not_full {p c n v : Nat} (hp : p < n) (hc : c < n) (hf : (p + 1) % n ≠ c)
    (h : consumerAccepted p c n v = true) : v < n ∧ (p + 1) % n ≠ v := by
  rw [consumerAccepted_iff] at h
  obtain ⟨hv, hd⟩ := h
  refine ⟨hv, fun e => ?_⟩
  have m1 : ∀ a, a < n → a % n = a := fun a => Nat.mod_eq_of_lt
  have m2 : ∀ a, n ≤ a → a < 2 * n → a % n = a - n := by
    intro a h1 h2
    rw [Nat.mod_eq_sub_mod h1, Nat.mod_eq_of_lt (by omega)]
  by_cases hw : p + 1 = n
  · rw [hw, Nat.mod_self] at hf e
    rw [m1 _ (by omega : v + n - c < n), m2 _ (by omega) (by omega)] at hd
    omega
  · rw [m1 _ (by omega)] at hf e
    by_cases h1 : v < c
    · by_cases h2 : p < c
      · rw [m1 _ (by omega), m1 _ (by omega)] at hd; omega
      · rw [m1 _ (by omega), m2 _ (by omega) (by omega)] at hd; omega
    · by_cases h2 : p < c
      · rw [m2 _ (by omega) (by omega), m1 _ (by omega)] at hd; omega
      · rw [m2 _ (by omega) (by omega), m2 _ (by omega) (by omega)] at hd; omega

/-! ### Notices and messages -/

/-- A notice taken in keeps the subjects of the queue, or adds its own at the tail (R193). -/
theorem insertNotice_subjects (w : Bool) (now : Instant) (sub : Subject) (b : NoticeBody) (q : List Notice) :
    (insertNotice w now sub b q).map Notice.subject =
      if sub ∈ q.map Notice.subject then q.map Notice.subject else q.map Notice.subject ++ [sub] := by
  induction q generalizing w with
  | nil => simp [insertNotice]
  | cons n rest ih =>
    unfold insertNotice
    by_cases h : n.subject = sub
    · simp [h]
    · have h' : ¬ sub = n.subject := fun e => h e.symm
      simp only [h, if_false, List.map_cons, ih, List.mem_cons, h', false_or]
      split <;> simp

/-- A notice handed over keeps the notices of different subjects apart (R193). -/
theorem notify_noticesDistinct (sub : Subject) (b : NoticeBody) {s : State} (h : NoticesDistinct s) :
    NoticesDistinct (notify sub b s) := by
  unfold NoticesDistinct notify at *
  simp only [State.setNotices_notices, insertNotice_subjects]
  split
  · exact h
  · rename_i hn
    rw [List.nodup_append]
    refine ⟨h, by simp, ?_⟩
    intro a ha b hb e
    simp at hb
    subst hb; subst e
    exact hn ha

/-- A message changes the host port only (R135). -/
theorem sendMessage_eq (v : Vec) (s : State) : ∃ h, sendMessage v s = s.setHost h := by
  unfold sendMessage
  split
  · exact ⟨_, rfl⟩
  · exact ⟨_, rfl⟩

/-- The arrival of an instant changes the timebase only. -/
theorem reachInstant_eq (due : Instant) (s : State) : ∃ i, reachInstant due s = s.setTimebase i := by
  unfold reachInstant
  split
  · exact ⟨_, rfl⟩
  · exact ⟨s.timebase, rfl⟩

/-! ### Lists -/

/-- One more user leaves every list its step slots (R99, R102). -/
theorem takeReference_slots (id : ListId) (s : State) (i : ListId) :
    ((takeReference id s).stored i).slots = (s.stored i).slots := by
  unfold takeReference
  split
  · rename_i h
    by_cases e : id = i
    · subst e; simp [State.stored, State.setStored, State.setLists, StoredList.slots] at *; rw [h]
    · simp [State.stored, State.setStored, State.setLists, vget_vset_ne _ _ _ _ e]
  · rfl

/-- One user less leaves every list its step slots (R99, R102). -/
theorem releaseReference_slots (id : ListId) (s : State) (i : ListId) :
    ((releaseReference id s).stored i).slots = (s.stored i).slots := by
  unfold releaseReference
  split
  · rename_i h
    by_cases e : id = i
    · subst e; simp [State.stored, State.setStored, State.setLists, StoredList.slots] at *; rw [h]
    · simp [State.stored, State.setStored, State.setLists, vget_vset_ne _ _ _ _ e]
  · rfl

/-! ### Completion records and the command in progress -/

/-- A record handed to an ACTIVE ring joins its posting queue (R131). -/
theorem handRecord_active {k : RingId} {s : State} (p : PostedRecord) (h : (s.compRing k).state = .active) :
    handRecord k p s = s.setCompRing k { s.compRing k with queue := (s.compRing k).queue ++ [p] } := by
  simp [handRecord, h]

/-- A record handed to a ring that is not ACTIVE is dropped, and its source is told (R131, R133). -/
theorem handRecord_dropped {k : RingId} {s : State} (p : PostedRecord) (h : (s.compRing k).state ≠ .active) :
    handRecord k p s = releaseSource p s := by
  simp [handRecord, h]

/-- A dispatched command is the job of the admin unit. -/
theorem dispatched_job {s : State} {c : AdminCommand} (h : dispatched s = some c) : ∃ j, s.admin.job = some j := by
  unfold dispatched at h
  cases hj : s.admin.job with
  | none => simp [hj] at h
  | some j => exact ⟨j, rfl⟩

/-- A command made to wait waits for that event (R144). -/
theorem adminWait_waitAdmin {s : State} {j : AdminJob} (e : AdminWait) (h : s.admin.job = some j) :
    adminWait (waitAdmin e s) = some e := by
  simp [waitAdmin, adminWait, h]

/-- A command with none in progress changes nothing by its end. -/
theorem endAdmin_none {s : State} (o : AdminOutcome) (d : Option Nat) (h : s.admin.job = none) : endAdmin o d s = s := by
  simp [endAdmin, h]

/-! ### Attention entries -/

/-- The entry found under a key has that key (R165). -/
theorem attentionEntry_key {s : State} {key : Key} {e : AttentionEntry} (h : s.attentionEntry key = some e) :
    e.key = key := by
  have := List.find?_some h
  simpa using this

/-- The entry under a key after a change that keeps keys. -/
theorem modAttention_attentionEntry (s : State) (key : Key) (f : AttentionEntry → AttentionEntry)
    (hf : ∀ e, (f e).key = e.key) : (s.modAttention key f).attentionEntry key = (s.attentionEntry key).map f := by
  show (s.attention.table.map _).find? _ = (s.attention.table.find? _).map f
  induction s.attention.table with
  | nil => rfl
  | cons a t ih =>
    simp only [List.map_cons, List.find?_cons]
    by_cases h : a.key = key
    · simp [h, hf]
    · simp [h, ih]

/-- A change of an entry that keeps keys keeps the keys of the table. -/
theorem modAttention_keys (s : State) (key : Key) (f : AttentionEntry → AttentionEntry) (hf : ∀ e, (f e).key = e.key) :
    (s.modAttention key f).attention.table.map AttentionEntry.key = s.attention.table.map AttentionEntry.key := by
  show (List.map _ _).map _ = _
  rw [List.map_map]
  apply List.map_congr_left
  intro e _
  show (if e.key = key then f e else e).key = e.key
  split
  · exact hf e
  · rfl

/-! ### Fields of what the part reads (R196) -/

/-- The little-endian field that the statements read is the one that the model reads. -/
theorem littleEndian_eq (b : List Byte) (i n : Nat) : littleEndian b i n = fieldAt b i n := by
  induction n generalizing i with
  | zero => simp [littleEndian, fieldAt, leNat]
  | succ n ih =>
    simp only [littleEndian, ih, fieldAt]
    by_cases h : i < b.length
    · rw [List.drop_eq_getElem_cons h, List.take_succ_cons, leNat]
      simp [h]
    · have h1 : b.drop i = [] := List.drop_eq_nil_of_le (by omega)
      have h2 : b.drop (i + 1) = [] := List.drop_eq_nil_of_le (by omega)
      simp [h1, h2, leNat, List.getElem?_eq_none (by omega : b.length ≤ i)]

/-- One byte is a field of one byte. -/
theorem byteAt_eq (b : List Byte) (i : Nat) : byteAt b i = littleEndian b i 1 := by simp [byteAt, littleEndian]

/-- A field of `n` bytes stays below 256 to the `n`. -/
theorem littleEndian_lt (b : List Byte) (i n : Nat) : littleEndian b i n < 256 ^ n := by
  induction n generalizing i with
  | zero => simp [littleEndian]
  | succ n ih =>
    simp only [littleEndian, Nat.pow_succ]
    have := (b.getD i 0).isLt
    have := ih (i + 1)
    omega

/-! ### Fields of what the part writes (R198 to R200) -/

@[simp] theorem leBytes_length (n v : Nat) : (leBytes n v).length = n := by
  induction n generalizing v with
  | zero => rfl
  | succ n ih => simp [leBytes, ih]

/-- The bytes of a number spell it, modulo their width. -/
theorem leNat_leBytes (n v : Nat) : leNat (leBytes n v) = v % 256 ^ n := by
  induction n generalizing v with
  | zero => simp [leBytes, leNat, Nat.mod_one]
  | succ n ih =>
    simp only [leBytes, leNat, ih, BitVec.toNat_ofNat]
    rw [Nat.pow_succ 256, Nat.mul_comm (256 ^ n), Nat.mod_mul]

/-- A field of a record's first part is that part's field. -/
theorem fieldAt_append_left {a : List Byte} (b : List Byte) {i n : Nat} (h : i + n ≤ a.length) :
    fieldAt (a ++ b) i n = fieldAt a i n := by
  unfold fieldAt
  rw [List.drop_append, List.take_append_of_le_length (by simp; omega)]

/-- A field behind a record's first part is a field of the rest. -/
theorem fieldAt_append_right {a : List Byte} (b : List Byte) {i : Nat} (n : Nat) (h : a.length ≤ i) :
    fieldAt (a ++ b) i n = fieldAt b (i - a.length) n := by
  unfold fieldAt
  rw [List.drop_append, List.drop_eq_nil_of_le h]; rfl

/-- A field written as the bytes of a number reads back as that number, modulo its width. -/
theorem fieldAt_leBytes (n v : Nat) : fieldAt (leBytes n v) 0 n = v % 256 ^ n := by
  unfold fieldAt
  rw [List.drop_zero, List.take_of_length_le (by simp), leNat_leBytes]

/-- A field of bytes of zero is 0. -/
theorem fieldAt_zeros (m i n : Nat) : fieldAt (zeros m) i n = 0 := by
  have zero (k : Nat) : leNat (List.replicate k (0 : Byte)) = 0 := by
    induction k with
    | zero => rfl
    | succ k ih => rw [List.replicate_succ, leNat, ih]; rfl
  unfold fieldAt zeros
  rw [List.drop_replicate, List.take_replicate, zero]

/-! ### The transmitter -/

/-- The loop state permits a frame exactly as R17 and R23 say. -/
theorem mayTransmit_iff (s : State) (f : Frame) : mayTransmit s f = true ↔ LoopPermits s f := by
  unfold mayTransmit LoopPermits
  cases f.kind <;> simp <;> (cases h : s.tag f.tag <;> simp [and_assoc])

/-- The first waiting frame is sent when the loop state permits it. -/
theorem sendNext_permitted {f : Frame} {fs : List Frame} {s : State} (h : mayTransmit s f = true) :
    sendNext (f :: fs) s = s.setLoop (beginTransmission f { s.loop with waiting := fs }) := by
  simp [sendNext, h]

/-- A waiting frame that the loop state does not permit leaves the transmitter, and the next one has its turn. -/
theorem sendNext_notPermitted {f : Frame} {fs : List Frame} {s : State} (h : mayTransmit s f = false) :
    sendNext (f :: fs) s = sendNext fs (notSent f s) := by
  simp [sendNext, h]

/-! ### Handing records over (R120) -/

/-- A record waits for its context's read, or for a record of the same completion ring. -/
theorem handNext_waits {s : State} {c : CtxId}
    (h : (s.ctx c).reading.isSome ∨ ∃ d ∈ s.handOver, (s.ctx d).cq = (s.ctx c).cq) :
    handNext s c = s.setHandOver (s.handOver ++ [c]) := by
  unfold handNext
  rw [if_pos]
  simpa using h

/-- A record with nothing to wait for is handed over. -/
theorem handNext_hands {s : State} {c : CtxId} (h : (s.ctx c).reading = none)
    (h' : ∀ d ∈ s.handOver, (s.ctx d).cq ≠ (s.ctx c).cq) : handNext s c = handJob c s := by
  unfold handNext
  rw [if_neg]
  simpa [h] using h'

/-! ### The reactions at rest -/

/-- Nothing follows an event after which no action of the part is enabled. -/
theorem react_settled {s : State} (h : settleStep s = none) : react s = s := by
  unfold react
  rw [settle, h]

end Sys2Proof.Machine
end

