-- ==== Sys2Proof/WellFormed.lean ====
section
/-! DEFINITION. Which commands can come about: the checks on operands that their types do not already make. -/

namespace Sys2Proof

/-- A read of a 64-byte submission entry hands over 64 bytes (R128, R129). -/
def ReadEnd.isEntry : ReadEnd → Bool
  | .data bytes => bytes.length == 64
  | .error _ => true

/-- A read of a list hands over 1 to 256 records of 16 bytes (R97, R100, R108). -/
def ReadEnd.isList : ReadEnd → Bool
  | .data bytes => bytes.length % 16 == 0 && 16 ≤ bytes.length && bytes.length ≤ 4096
  | .error _ => true

/-- A staging read hands over 1 to 16 words (R61). -/
def ReadEnd.isStaging : ReadEnd → Bool
  | .data bytes => bytes.length % 4 == 0 && 4 ≤ bytes.length && bytes.length ≤ 64
  | .error _ => true

/-- Contexts 0-11 are the ring contexts (R103): only they have host buffers and deadlines. -/
def isRingCtx (c : CtxId) : Bool := c.val < 12

/-- Whether a command can come about at all. -/
def Instr.wellFormed : Instr → Bool
  | .registerWrite offset _ => offset.toNat % 4 == 0
  | .fetchReadEnd r => r.isEntry
  | .adminFetchReadEnd r => r.isEntry
  | .listLoadReadEnd r => r.isList
  | .inlineListReadEnd c r => isRingCtx c && r.isList
  | .stagingReadEnd c r => isRingCtx c && r.isStaging
  | .inBufferWriteEnd c _ => isRingCtx c
  | .jobDeadlineExpiry c => isRingCtx c
  | .powerOn | .pcieReset | .functionReset | .initialisationEnd | .enableSet | .enableCleared => true
  | .adminRegisterWrite _ _ | .producerIndexWrite _ _ | .completionConsumerIndexWrite _ _ => true
  | .eventConsumerIndexWrite _ | .captureConsumerIndexWrite _ _ | .msixVectorMaskWrite _ _ => true
  | .identify | .setParameters | .createSq | .deleteSq | .createCq | .deleteCq | .setEventRing => true
  | .loopStart | .loopStop | .census | .nodeReset | .nodeTableRead | .loadList | .unloadList => true
  | .attentionAdd | .attentionArm | .attentionDisarm | .attentionDelete => true
  | .slotStart | .slotStop | .slotResume | .abortJob | .adminBufferWriteEnd _ => true
  | .frameTransmitEnd | .frameReturn _ | .returnTimeout _ | .busyBackoffExpiry _ => true
  | .signalLoss | .trainingTimeout | .retrainTimerExpiry | .deferDeadlineExpiry _ => true
  | .awaitIntervalExpiry _ | .delayExpiry _ | .periodExpiry _ => true
  | .eventRecordWritten | .eventWriteError | .completionRecordWritten _ | .completionWriteError _ _ => true
  | .moderationTimerExpiry _ | .snapshotWriteEnd _ _ => true

/-- The place of a command's row in spec/opcode_table.json, from 0. -/
def Instr.row : Instr → Nat
  | .powerOn => 0
  | .pcieReset => 1
  | .functionReset => 2
  | .initialisationEnd => 3
  | .enableSet => 4
  | .enableCleared => 5
  | .adminRegisterWrite _ _ => 6
  | .registerWrite _ _ => 7
  | .producerIndexWrite _ _ => 8
  | .completionConsumerIndexWrite _ _ => 9
  | .eventConsumerIndexWrite _ => 10
  | .captureConsumerIndexWrite _ _ => 11
  | .msixVectorMaskWrite _ _ => 12
  | .fetchReadEnd _ => 13
  | .adminFetchReadEnd _ => 14
  | .identify => 15
  | .setParameters => 16
  | .createSq => 17
  | .deleteSq => 18
  | .createCq => 19
  | .deleteCq => 20
  | .setEventRing => 21
  | .loopStart => 22
  | .loopStop => 23
  | .census => 24
  | .nodeReset => 25
  | .nodeTableRead => 26
  | .loadList => 27
  | .unloadList => 28
  | .attentionAdd => 29
  | .attentionArm => 30
  | .attentionDisarm => 31
  | .attentionDelete => 32
  | .slotStart => 33
  | .slotStop => 34
  | .slotResume => 35
  | .abortJob => 36
  | .adminBufferWriteEnd _ => 37
  | .listLoadReadEnd _ => 38
  | .inlineListReadEnd _ _ => 39
  | .stagingReadEnd _ _ => 40
  | .inBufferWriteEnd _ _ => 41
  | .frameTransmitEnd => 42
  | .frameReturn _ => 43
  | .returnTimeout _ => 44
  | .busyBackoffExpiry _ => 45
  | .signalLoss => 46
  | .trainingTimeout => 47
  | .retrainTimerExpiry => 48
  | .deferDeadlineExpiry _ => 49
  | .jobDeadlineExpiry _ => 50
  | .awaitIntervalExpiry _ => 51
  | .delayExpiry _ => 52
  | .periodExpiry _ => 53
  | .eventRecordWritten => 54
  | .eventWriteError => 55
  | .completionRecordWritten _ => 56
  | .completionWriteError _ _ => 57
  | .moderationTimerExpiry _ => 58
  | .snapshotWriteEnd _ _ => 59

end Sys2Proof
end

