-- ==== Sys2Proof/Laws/PerInstr.lean ====
section
/-! SUPPORT. Statements made of every command, one lemma per constructor. -/

namespace Sys2Proof.Laws

/-- A row of spec/opcode_table.json is a command that can come about: its number is one of the table's 60, and some
well-formed command has it. No row is shut out by WellFormed. -/
def RowCanCome.Statement (i : Instr) : Prop := i.row < 60 ∧ ∃ j : Instr, j.row = i.row ∧ j.wellFormed = true

theorem RowCanCome.powerOn : RowCanCome.Statement .powerOn :=
  ⟨Nat.le_of_ble_eq_true rfl, .powerOn, rfl, by decide⟩

theorem RowCanCome.pcieReset : RowCanCome.Statement .pcieReset :=
  ⟨Nat.le_of_ble_eq_true rfl, .pcieReset, rfl, by decide⟩

theorem RowCanCome.functionReset : RowCanCome.Statement .functionReset :=
  ⟨Nat.le_of_ble_eq_true rfl, .functionReset, rfl, by decide⟩

theorem RowCanCome.initialisationEnd : RowCanCome.Statement .initialisationEnd :=
  ⟨Nat.le_of_ble_eq_true rfl, .initialisationEnd, rfl, by decide⟩

theorem RowCanCome.enableSet : RowCanCome.Statement .enableSet :=
  ⟨Nat.le_of_ble_eq_true rfl, .enableSet, rfl, by decide⟩

theorem RowCanCome.enableCleared : RowCanCome.Statement .enableCleared :=
  ⟨Nat.le_of_ble_eq_true rfl, .enableCleared, rfl, by decide⟩

theorem RowCanCome.adminRegisterWrite (reg : AdminRegister) (value : Word) : RowCanCome.Statement (.adminRegisterWrite reg value) :=
  ⟨Nat.le_of_ble_eq_true rfl, .adminRegisterWrite .sqBaseLow 0, rfl, by decide⟩

theorem RowCanCome.registerWrite (offset : BitVec 8) (value : Word) : RowCanCome.Statement (.registerWrite offset value) :=
  ⟨Nat.le_of_ble_eq_true rfl, .registerWrite 0 0, rfl, by decide⟩

theorem RowCanCome.producerIndexWrite (ring : RingId) (value : Word) : RowCanCome.Statement (.producerIndexWrite ring value) :=
  ⟨Nat.le_of_ble_eq_true rfl, .producerIndexWrite 0 0, rfl, by decide⟩

theorem RowCanCome.completionConsumerIndexWrite (ring : RingId) (value : Word) : RowCanCome.Statement (.completionConsumerIndexWrite ring value) :=
  ⟨Nat.le_of_ble_eq_true rfl, .completionConsumerIndexWrite 0 0, rfl, by decide⟩

theorem RowCanCome.eventConsumerIndexWrite (value : Word) : RowCanCome.Statement (.eventConsumerIndexWrite value) :=
  ⟨Nat.le_of_ble_eq_true rfl, .eventConsumerIndexWrite 0, rfl, by decide⟩

theorem RowCanCome.captureConsumerIndexWrite (slot : SlotId) (value : Word) : RowCanCome.Statement (.captureConsumerIndexWrite slot value) :=
  ⟨Nat.le_of_ble_eq_true rfl, .captureConsumerIndexWrite 0 0, rfl, by decide⟩

theorem RowCanCome.msixVectorMaskWrite (vector : Vec) (masked : Bool) : RowCanCome.Statement (.msixVectorMaskWrite vector masked) :=
  ⟨Nat.le_of_ble_eq_true rfl, .msixVectorMaskWrite 0 true, rfl, by decide⟩

theorem RowCanCome.fetchReadEnd (result : ReadEnd) : RowCanCome.Statement (.fetchReadEnd result) :=
  ⟨Nat.le_of_ble_eq_true rfl, .fetchReadEnd (.error 0), rfl, by decide⟩

theorem RowCanCome.adminFetchReadEnd (result : ReadEnd) : RowCanCome.Statement (.adminFetchReadEnd result) :=
  ⟨Nat.le_of_ble_eq_true rfl, .adminFetchReadEnd (.error 0), rfl, by decide⟩

theorem RowCanCome.identify : RowCanCome.Statement .identify :=
  ⟨Nat.le_of_ble_eq_true rfl, .identify, rfl, by decide⟩

theorem RowCanCome.setParameters : RowCanCome.Statement .setParameters :=
  ⟨Nat.le_of_ble_eq_true rfl, .setParameters, rfl, by decide⟩

theorem RowCanCome.createSq : RowCanCome.Statement .createSq :=
  ⟨Nat.le_of_ble_eq_true rfl, .createSq, rfl, by decide⟩

theorem RowCanCome.deleteSq : RowCanCome.Statement .deleteSq :=
  ⟨Nat.le_of_ble_eq_true rfl, .deleteSq, rfl, by decide⟩

theorem RowCanCome.createCq : RowCanCome.Statement .createCq :=
  ⟨Nat.le_of_ble_eq_true rfl, .createCq, rfl, by decide⟩

theorem RowCanCome.deleteCq : RowCanCome.Statement .deleteCq :=
  ⟨Nat.le_of_ble_eq_true rfl, .deleteCq, rfl, by decide⟩

theorem RowCanCome.setEventRing : RowCanCome.Statement .setEventRing :=
  ⟨Nat.le_of_ble_eq_true rfl, .setEventRing, rfl, by decide⟩

theorem RowCanCome.loopStart : RowCanCome.Statement .loopStart :=
  ⟨Nat.le_of_ble_eq_true rfl, .loopStart, rfl, by decide⟩

theorem RowCanCome.loopStop : RowCanCome.Statement .loopStop :=
  ⟨Nat.le_of_ble_eq_true rfl, .loopStop, rfl, by decide⟩

theorem RowCanCome.census : RowCanCome.Statement .census :=
  ⟨Nat.le_of_ble_eq_true rfl, .census, rfl, by decide⟩

theorem RowCanCome.nodeReset : RowCanCome.Statement .nodeReset :=
  ⟨Nat.le_of_ble_eq_true rfl, .nodeReset, rfl, by decide⟩

theorem RowCanCome.nodeTableRead : RowCanCome.Statement .nodeTableRead :=
  ⟨Nat.le_of_ble_eq_true rfl, .nodeTableRead, rfl, by decide⟩

theorem RowCanCome.loadList : RowCanCome.Statement .loadList :=
  ⟨Nat.le_of_ble_eq_true rfl, .loadList, rfl, by decide⟩

theorem RowCanCome.unloadList : RowCanCome.Statement .unloadList :=
  ⟨Nat.le_of_ble_eq_true rfl, .unloadList, rfl, by decide⟩

theorem RowCanCome.attentionAdd : RowCanCome.Statement .attentionAdd :=
  ⟨Nat.le_of_ble_eq_true rfl, .attentionAdd, rfl, by decide⟩

theorem RowCanCome.attentionArm : RowCanCome.Statement .attentionArm :=
  ⟨Nat.le_of_ble_eq_true rfl, .attentionArm, rfl, by decide⟩

theorem RowCanCome.attentionDisarm : RowCanCome.Statement .attentionDisarm :=
  ⟨Nat.le_of_ble_eq_true rfl, .attentionDisarm, rfl, by decide⟩

theorem RowCanCome.attentionDelete : RowCanCome.Statement .attentionDelete :=
  ⟨Nat.le_of_ble_eq_true rfl, .attentionDelete, rfl, by decide⟩

theorem RowCanCome.slotStart : RowCanCome.Statement .slotStart :=
  ⟨Nat.le_of_ble_eq_true rfl, .slotStart, rfl, by decide⟩

theorem RowCanCome.slotStop : RowCanCome.Statement .slotStop :=
  ⟨Nat.le_of_ble_eq_true rfl, .slotStop, rfl, by decide⟩

theorem RowCanCome.slotResume : RowCanCome.Statement .slotResume :=
  ⟨Nat.le_of_ble_eq_true rfl, .slotResume, rfl, by decide⟩

theorem RowCanCome.abortJob : RowCanCome.Statement .abortJob :=
  ⟨Nat.le_of_ble_eq_true rfl, .abortJob, rfl, by decide⟩

theorem RowCanCome.adminBufferWriteEnd (result : WriteEnd) : RowCanCome.Statement (.adminBufferWriteEnd result) :=
  ⟨Nat.le_of_ble_eq_true rfl, .adminBufferWriteEnd .ok, rfl, by decide⟩

theorem RowCanCome.listLoadReadEnd (result : ReadEnd) : RowCanCome.Statement (.listLoadReadEnd result) :=
  ⟨Nat.le_of_ble_eq_true rfl, .listLoadReadEnd (.error 0), rfl, by decide⟩

theorem RowCanCome.inlineListReadEnd (ctx : CtxId) (result : ReadEnd) : RowCanCome.Statement (.inlineListReadEnd ctx result) :=
  ⟨Nat.le_of_ble_eq_true rfl, .inlineListReadEnd 0 (.error 0), rfl, by decide⟩

theorem RowCanCome.stagingReadEnd (ctx : CtxId) (result : ReadEnd) : RowCanCome.Statement (.stagingReadEnd ctx result) :=
  ⟨Nat.le_of_ble_eq_true rfl, .stagingReadEnd 0 (.error 0), rfl, by decide⟩

theorem RowCanCome.inBufferWriteEnd (ctx : CtxId) (result : WriteEnd) : RowCanCome.Statement (.inBufferWriteEnd ctx result) :=
  ⟨Nat.le_of_ble_eq_true rfl, .inBufferWriteEnd 0 .ok, rfl, by decide⟩

theorem RowCanCome.frameTransmitEnd : RowCanCome.Statement .frameTransmitEnd :=
  ⟨Nat.le_of_ble_eq_true rfl, .frameTransmitEnd, rfl, by decide⟩

theorem RowCanCome.frameReturn (bytes : List Byte) : RowCanCome.Statement (.frameReturn bytes) :=
  ⟨Nat.le_of_ble_eq_true rfl, .frameReturn [], rfl, by decide⟩

theorem RowCanCome.returnTimeout (sender : FrameSender) : RowCanCome.Statement (.returnTimeout sender) :=
  ⟨Nat.le_of_ble_eq_true rfl, .returnTimeout .loop, rfl, by decide⟩

theorem RowCanCome.busyBackoffExpiry (owner : Owner) : RowCanCome.Statement (.busyBackoffExpiry owner) :=
  ⟨Nat.le_of_ble_eq_true rfl, .busyBackoffExpiry (.context 0), rfl, by decide⟩

theorem RowCanCome.signalLoss : RowCanCome.Statement .signalLoss :=
  ⟨Nat.le_of_ble_eq_true rfl, .signalLoss, rfl, by decide⟩

theorem RowCanCome.trainingTimeout : RowCanCome.Statement .trainingTimeout :=
  ⟨Nat.le_of_ble_eq_true rfl, .trainingTimeout, rfl, by decide⟩

theorem RowCanCome.retrainTimerExpiry : RowCanCome.Statement .retrainTimerExpiry :=
  ⟨Nat.le_of_ble_eq_true rfl, .retrainTimerExpiry, rfl, by decide⟩

theorem RowCanCome.deferDeadlineExpiry (entry : DeferId) : RowCanCome.Statement (.deferDeadlineExpiry entry) :=
  ⟨Nat.le_of_ble_eq_true rfl, .deferDeadlineExpiry 0, rfl, by decide⟩

theorem RowCanCome.jobDeadlineExpiry (ctx : CtxId) : RowCanCome.Statement (.jobDeadlineExpiry ctx) :=
  ⟨Nat.le_of_ble_eq_true rfl, .jobDeadlineExpiry 0, rfl, by decide⟩

theorem RowCanCome.awaitIntervalExpiry (ctx : CtxId) : RowCanCome.Statement (.awaitIntervalExpiry ctx) :=
  ⟨Nat.le_of_ble_eq_true rfl, .awaitIntervalExpiry 0, rfl, by decide⟩

theorem RowCanCome.delayExpiry (ctx : CtxId) : RowCanCome.Statement (.delayExpiry ctx) :=
  ⟨Nat.le_of_ble_eq_true rfl, .delayExpiry 0, rfl, by decide⟩

theorem RowCanCome.periodExpiry (slot : SlotId) : RowCanCome.Statement (.periodExpiry slot) :=
  ⟨Nat.le_of_ble_eq_true rfl, .periodExpiry 0, rfl, by decide⟩

theorem RowCanCome.eventRecordWritten : RowCanCome.Statement .eventRecordWritten :=
  ⟨Nat.le_of_ble_eq_true rfl, .eventRecordWritten, rfl, by decide⟩

theorem RowCanCome.eventWriteError : RowCanCome.Statement .eventWriteError :=
  ⟨Nat.le_of_ble_eq_true rfl, .eventWriteError, rfl, by decide⟩

theorem RowCanCome.completionRecordWritten (ring : RingId) : RowCanCome.Statement (.completionRecordWritten ring) :=
  ⟨Nat.le_of_ble_eq_true rfl, .completionRecordWritten 0, rfl, by decide⟩

theorem RowCanCome.completionWriteError (ring : RingId) (addr : Addr) : RowCanCome.Statement (.completionWriteError ring addr) :=
  ⟨Nat.le_of_ble_eq_true rfl, .completionWriteError 0 0, rfl, by decide⟩

theorem RowCanCome.moderationTimerExpiry (ring : ModeratedRing) : RowCanCome.Statement (.moderationTimerExpiry ring) :=
  ⟨Nat.le_of_ble_eq_true rfl, .moderationTimerExpiry .event, rfl, by decide⟩

theorem RowCanCome.snapshotWriteEnd (slot : SlotId) (result : WriteEnd) : RowCanCome.Statement (.snapshotWriteEnd slot result) :=
  ⟨Nat.le_of_ble_eq_true rfl, .snapshotWriteEnd 0 .ok, rfl, by decide⟩

end Sys2Proof.Laws
end

