-- ==== Sys2Proof/Tests/Slice0.lean ====
section
/-! SUPPORT. Tests: what WellFormed refuses, a witness for the hypotheses of each obligation, and small behaviours whose
expected values are the manual's (chapter 12 of the spec, and the rules named). -/

namespace Sys2Proof.Tests

-- One theorem after another: their kernel evaluations side by side ask for more threads than a small machine gives.
set_option Elab.async false

open Sys2Proof Sys2Proof.Machine

/-! ### States -/

/-- An ACTIVE completion ring of 16 records. -/
def cq16 : CompRing := { state := .active, base := 0x20000, size := 16, phase := true, moderation := { count := 1 } }

/-- An ACTIVE submission ring of 16 entries, weight 2, its records on completion ring 0. -/
def sq16 : SubRing := { state := .active, base := 0x10000, size := 16, weight := 2 }

/-- The part READY and enabled, with its admin rings. -/
def up : State :=
  ((State.reset.setRegs { ready := true, enable := true }).setSubRing 0 sq16).setCompRing 0 cq16

/-- The identity of a node. -/
def identity : Identity := { kind := 7, serial := 0x1234, points := 64, rates := 0x0E, sources := 8 }

/-- The part with the loop RUNNING and the nodes at addresses 1 and 30 PRESENT. -/
def running : State :=
  let s := up.setLoop { up.loop with state := .running }
  (s.setNode 0 { state := .present, identity := some identity }).setNode 29
    { state := .present, identity := some identity }

/-- A state whose admin unit holds a command just dispatched. -/
def holds (c : AdminCommand) (s : State) : State :=
  s.setAdmin { job := some { code := 1, tag := 0xABCD, command := c, stage := .dispatched } }

/-- A state whose admin unit waits for an event. -/
def waitsFor (e : AdminWait) (s : State) : State :=
  s.setAdmin { job := some { code := 1, tag := 0xABCD, command := .unknown, stage := .waiting e } }

/-- The state a command leaves. -/
def run (c : Instr) (s : State) : State :=
  match exec c s with
  | .next t => t
  | .fault _ | .refused _ => s

/-- The outcome and detail of the command's record at the head of completion ring 0's posting queue. -/
def ended (s : State) : Option (AdminOutcome × Option Nat) :=
  match (s.compRing 0).queue with
  | .admin r :: _ => some (r.outcome, r.detail)
  | _ => none

/-- A READ of 2 words at node 1, point 3. -/
def readStep : Step :=
  { kind := .read, node := 1, point := 3, policy := .stop, source := .outBuffer, requireValid := false, endOnShort := false,
    count := 2, interval := 0, limit := 0, immediate := 0 }

/-- A WRITE of 1 word from the out-buffer. -/
def writeStep : Step := { readStep with kind := .write, count := 1 }

/-- A stored list of one READ, without users. -/
def loadedList : StoredList := .loaded [readStep] 2 false 0

/-- A job of ring 1 on ring context `c` at its only step. -/
def jobAt (c : CtxId) (p : Step) (s : State) : State :=
  (s.setSubRing 1 { sq16 with jobsHeld := 1 }).setCtx c
    { state := .ready, sq := 1, cq := 0, jobId := 5, list := .inline [p], stepCount := 1, inLen := 64, outLen := 64 }

/-- A class I operation of node 1 on internal context 12. -/
def opI : Operation := { owner := .context 12, node := 0, fresh := false }

/-- A class J operation of node 1 on ring context 0. -/
def opJ : Operation := { owner := .context 0, node := 0, fresh := false }

/-- A MASK of node 1. -/
def opMask : Operation := { owner := .mask 0, node := 0, fresh := false }

/-- The MASK's frame as sent on tag 0, masking no source but 0. -/
def maskFrame : Frame := { kind := .mask, addr := 1, data := [0xFE] }

/-- The MASK in flight on tag 0, its transmission ended at instant 0. -/
def maskFlying : State :=
  let s := running.setTag 0 (some { operation := opMask, seq := false, frame := maskFrame })
  s.setLoop { s.loop with transit := [{ transitRecord maskFrame with ended := some 0 }] }

/-- The MASK's frame as it returns answered DONE. -/
def maskDoneFrame : Frame := { maskFrame with status := .done }

/-- What is never LOADED in an EMPTY id. -/
theorem notLoaded {x : StoredList} (h : x = .empty) : ∀ a b c d, x ≠ .loaded a b c d := by
  subst h; intro a b c d h; cases h

/-- What is never LOADED in a LOADING id. -/
theorem notLoaded_of_loading {x : StoredList} {n : Nat} (h : x = .loading n) : ∀ a b c d, x ≠ .loaded a b c d := by
  subst h; intro a b c d h; cases h

theorem size16 : RingSize 16 := ⟨4, by decide, by decide, by decide⟩
theorem size4096 : RingSize 4096 := ⟨12, by decide, by decide, by decide⟩
theorem notSize8192 : ¬ RingSize 8192 := by rw [← isRingSize_iff]; decide
theorem notSize0 : ¬ RingSize 0 := by rw [← isRingSize_iff]; decide

/-! ### What WellFormed refuses -/

theorem test_wf_offset : (Instr.registerWrite 0x42 0).wellFormed = false := by decide
theorem test_wf_fetch : (Instr.fetchReadEnd (.data (zeros 63))).wellFormed = false := by decide
theorem test_wf_adminFetch : (Instr.adminFetchReadEnd (.data (zeros 65))).wellFormed = false := by decide
theorem test_wf_listLoad : (Instr.listLoadReadEnd (.data (zeros 17))).wellFormed = false := by decide
theorem test_wf_listEmpty : (Instr.listLoadReadEnd (.data [])).wellFormed = false := by decide
theorem test_wf_listLong : (Instr.listLoadReadEnd (.data (zeros 4112))).wellFormed = false := by decide +kernel
theorem test_wf_inlineCtx : (Instr.inlineListReadEnd 12 (.error 0)).wellFormed = false := by decide
theorem test_wf_inlineList : (Instr.inlineListReadEnd 0 (.data (zeros 8))).wellFormed = false := by decide
theorem test_wf_stagingCtx : (Instr.stagingReadEnd 12 (.error 0)).wellFormed = false := by decide
theorem test_wf_stagingShort : (Instr.stagingReadEnd 0 (.data (zeros 2))).wellFormed = false := by decide
theorem test_wf_stagingLong : (Instr.stagingReadEnd 0 (.data (zeros 68))).wellFormed = false := by decide
theorem test_wf_inBufferCtx : (Instr.inBufferWriteEnd 12 .ok).wellFormed = false := by decide
theorem test_wf_deadlineCtx : (Instr.jobDeadlineExpiry 12).wellFormed = false := by decide
theorem test_wf_accepts : (Instr.inlineListReadEnd 11 (.data (zeros 4096))).wellFormed = true := by decide +kernel

/-! ### Witnesses: the step and the laws -/

theorem witness_StepRunsFrontCommand :
    ({ State.reset with pending := [.powerOn, .identify] } : State).pending = .powerOn :: [.identify] := rfl

theorem witness_EmptyQueueCountsOneMicrosecond :
    State.reset.pending = [] ∧ State.reset.regs.ready = false ∧
    up.pending = [] ∧ up.regs.ready = true ∧ (up.setTimebase (2 ^ 64 - 2)).timebase + 1 < 2 ^ 64 ∧
    2 ^ 64 ≤ (up.setTimebase (2 ^ 64 - 1)).timebase + 1 := by decide

/-- A read in progress whose host ends it with 63 bytes. -/
theorem witness_EveryCommandGoesOn :
    exec (.adminFetchReadEnd (.data (zeros 63))) (up.setAdmin { fetching := some 0x10000 }) = .fault .hostDataLength := rfl

/-- A state with something under every law: two notices, two attention entries, a full list store, a ring being written. -/
def lawful : State :=
  let s := (up.setStored 0 (.loading 2048)).setNotices
    [{ subject := .loop, body := .loop .broken .signalLost .r1, changed := 0 },
     { subject := .node 0, body := .node .silent .silence 0, changed := 0 }]
  let s := s.setAttention
    { table := [{ key := ⟨0, 0⟩, kind := .single, list := none, cookie := 0 },
                { key := ⟨0, 1⟩, kind := .repeat, list := none, cookie := 0 }] }
  let s := s.setSubRing 7 { sq16 with producer := 15, consumer := 15 }
  let s := s.setCompRing 0 { cq16 with producer := 15, consumer := 1, writing := some { addr := 0, bytes := [], lastWord := 28 } }
  { s with pending := [.signalLoss] }

theorem witness_StepKeepsLaws : NoticesDistinct lawful ∧ AttentionDistinct lawful ∧ StoreFits lawful ∧
    ∃ t, step lawful = .next t :=
  ⟨by unfold NoticesDistinct; decide, by unfold AttentionDistinct; decide, by unfold StoreFits; decide +kernel, _, rfl⟩

theorem witness_StepKeepsRingsWithinSize : RingsFit lawful ∧ ∃ t, step lawful = .next t :=
  ⟨by unfold RingsFit RingFits; decide +kernel, _, rfl⟩

/-! ### Witnesses: the register window -/

/-- The part READY, not enabled, with the admin registers as given. -/
def registers (sqBase : Addr) (sqSize : Word) (cqBase : Addr) (cqSize : Word) : State :=
  State.reset.setRegs
    { ready := true, adminSqBase := sqBase, adminSqSize := sqSize, adminCqBase := cqBase, adminCqSize := cqSize }

theorem witness_ResetsThenInitialisation : State.reset.regs.ready = false := rfl

theorem witness_EnableWritesFollowAdminRegisters :
    State.reset.regs.ready = false ∧ up.regs.enable = true ∧
    ((up.setRegs { ready := true }).regs.enable = false ∧ ((up.setRegs { ready := true }).subRing 0).state ≠ .absent) ∧
    ((registers 64 16 32 4096).subRing 0).state = .absent ∧
    (RingSize (registers 64 16 32 4096).regs.adminSqSize.toNat ∧ RingSize (registers 64 16 32 4096).regs.adminCqSize.toNat ∧
      (registers 64 16 32 4096).regs.adminSqBase.toNat % 64 = 0 ∧ (registers 64 16 32 4096).regs.adminCqBase.toNat % 32 = 0) ∧
    (registers 64 8192 32 16).regs.ready = true ∧ ¬ RingSize (registers 64 8192 32 16).regs.adminSqSize.toNat :=
  ⟨rfl, rfl, by decide, rfl, ⟨size16, size4096, by decide, by decide⟩, rfl, notSize8192⟩

theorem witness_RegisterWritesReachRegisters :
    ((registers 0 0 0 0).regs.ready = true ∧ (registers 0 0 0 0).regs.enable = false ∧
      ((registers 0 0 0 0).subRing 0).state = .absent) ∧
    ¬ (up.regs.ready = true ∧ up.regs.enable = false ∧ (up.subRing 0).state = .absent) ∧
    (2 : Word).getLsbD 1 = true ∧ ((1 : Word).getLsbD 1 = false ∧ (1 : Word).getLsbD 0 = true) ∧
    ((0 : Word).getLsbD 1 = false ∧ (0 : Word).getLsbD 0 = false) ∧
    ((0x3C : BitVec 8).toNat ∉ [0x04, 0x10, 0x14, 0x18, 0x20, 0x24, 0x28] ∧ (0x3C : BitVec 8).toNat < 0x40) ∧
    ((0xA4 : BitVec 8).toNat ∉ [0x04, 0x10, 0x14, 0x18, 0x20, 0x24, 0x28] ∧ 0xA4 ≤ (0xA4 : BitVec 8).toNat) ∧
    ∀ o : BitVec 8, o = 0x41 ∨ o = 0xA3 →
      o.toNat ∉ [0x04, 0x10, 0x14, 0x18, 0x20, 0x24, 0x28] ∧ o.toNat % 4 ≠ 0 := by
  refine ⟨by decide, by decide, by decide, by decide, by decide, by decide, by decide, ?_⟩
  rintro o (rfl | rfl) <;> decide

theorem witness_IndexWritesByRingState :
    State.reset.regs.ready = false ∧ up.regs.ready = true ∧
    ((up.subRing 0).state = .active ∧ (15 : Word).toNat < (up.subRing 0).size) ∧ (up.subRing 0).size ≤ (16 : Word).toNat ∧
    (up.subRing 1).state ≠ .active := by decide

/-- A completion ring, an event ring and a capture ring of 16 records, each holding two. -/
def rings2 : State :=
  let s := up.setCompRing 0 { cq16 with producer := 1, consumer := 15 }
  let s := s.setEventRing { state := .active, size := 16, producer := 1, consumer := 15 }
  (s.setCaptureRing 0 { size := 16, producer := 1, consumer := 15 }).setSlot 0 { state := .active }

theorem witness_IndexWritesByRingState_consumer :
    rings2.regs.ready = true ∧
    ((rings2.compRing 0).state = .active ∧ TakesRecords (rings2.compRing 0).producer (rings2.compRing 0).consumer
      (rings2.compRing 0).size (1 : Word).toNat) ∧
    ¬ TakesRecords (rings2.compRing 0).producer (rings2.compRing 0).consumer (rings2.compRing 0).size (2 : Word).toNat ∧
    (rings2.rings.event.state = .active ∧ TakesRecords rings2.rings.event.producer rings2.rings.event.consumer
      rings2.rings.event.size (1 : Word).toNat) ∧
    ¬ TakesRecords rings2.rings.event.producer rings2.rings.event.consumer rings2.rings.event.size (16 : Word).toNat ∧
    ((rings2.slot 0).state ≠ .idle ∧ TakesRecords (rings2.captureRing 0).producer (rings2.captureRing 0).consumer
      (rings2.captureRing 0).size (1 : Word).toNat) ∧
    ¬ TakesRecords (rings2.captureRing 0).producer (rings2.captureRing 0).consumer (rings2.captureRing 0).size
      (2 : Word).toNat := by
  unfold TakesRecords; decide

/-- Moderation timers running. -/
def moderated : State :=
  let m : Moderation := { count := 4, time := 50, unsignalled := 1, timer := some 50 }
  (up.setCompRing 0 { cq16 with producer := 1, moderation := m }).setEventRing
    { state := .active, size := 16, producer := 1, moderation := m }

theorem witness_MessagesByMaskAndModeration :
    (moderated.compRing 0).moderation.timer = some 50 ∧ moderated.rings.event.moderation.timer = some 50 ∧
    moderated.host.maskedFlags.getLsbD (15 : Vec).val = true ∧
    (moderated.setHost { maskedFlags := 0 }).host.maskedFlags.getLsbD (15 : Vec).val = false := by decide

/-! ### Witnesses: fetches -/

/-- An entry with a list source, a deferral permission, an inline step count and a list id. -/
def entry (source permission count list : Nat) : List Byte :=
  leBytes 2 5 ++ leBytes 1 source ++ leBytes 1 permission ++ leBytes 2 count ++ leBytes 1 list ++ zeros 1
    ++ leBytes 8 0x3000 ++ leBytes 8 0x4000 ++ leBytes 4 64 ++ leBytes 4 0 ++ zeros 32

/-- Ring 1 with a fetch read in progress, contexts 0 to 10 holding jobs, list 0 LOADED. -/
def fetching : State :=
  let s := (List.range 11).foldl (fun s i => s.setCtx ⟨i % 16, by omega⟩ { state := .completing, sq := 1 }) running
  ((s.setSubRing 1 { sq16 with producer := 1 }).setRings { (s.setSubRing 1 { sq16 with producer := 1 }).rings with
    fetch := some { ring := 1, addr := 0x10000 } }).setStored 0 loadedList

theorem witness_FetchedEntryIsAdmitted :
    (fetching.rings.fetch = some { ring := 1, addr := 0x10000 } ∧ (fetching.subRing 1).state ≠ .draining ∧
      (fetching.ctx 11).state = .free ∧ ∀ d : CtxId, d.val < 11 → (fetching.ctx d).state ≠ .free) ∧
    fetching.stored 0 = .loaded [readStep] 2 false 0 ∧ fetching.loop.state = .running ∧
    (fetching.setLoop { fetching.loop with state := .broken }).loop.state ≠ .running := by decide +kernel

theorem witness_FetchedEntryIsAdmitted_fails : (entry 1 1 257 0).length = 64 ∧ ¬ EntryPasses (entry 1 1 257 0) := by
  unfold EntryPasses BufferPasses; decide +kernel

theorem witness_FetchedEntryIsAdmitted_inline :
    (entry 1 2 256 0).length = 64 ∧ EntryPasses (entry 1 2 256 0) ∧ littleEndian (entry 1 2 256 0) 2 1 = 1 := by
  unfold EntryPasses BufferPasses; decide +kernel

theorem witness_FetchedEntryIsAdmitted_stored :
    (entry 2 1 0 63).length = 64 ∧ EntryPasses (entry 2 1 0 63) ∧ littleEndian (entry 2 1 0 63) 2 1 = 2 ∧
    (63 : ListId).val = littleEndian (entry 2 1 0 63) 6 1 ∧ (0 : ListId).val = littleEndian (entry 2 1 0 0) 6 1 := by
  unfold EntryPasses BufferPasses; decide +kernel

theorem witness_FetchedEntryIsAdmitted_missing : ∀ a b c d, fetching.stored 63 ≠ .loaded a b c d := notLoaded (by decide)

theorem witness_FetchReadsEnd :
    State.reset.rings.fetch = none ∧ fetching.rings.fetch = some { ring := 1, addr := 0x10000 } ∧ (zeros 64).length = 64 ∧
    ((fetching.setSubRing 1 { fetching.subRing 1 with state := .draining }).rings.fetch.isSome ∧
      ((fetching.setSubRing 1 { fetching.subRing 1 with state := .draining }).subRing 1).state = .draining) := by
  decide +kernel

/-- An administrative entry with a code. -/
def adminEntry (code : Nat) : List Byte := leBytes 2 0xABCD ++ leBytes 1 code ++ zeros 61

theorem witness_FetchReadsEnd_admin :
    (up.admin.fetching = none ∧ (up.setAdmin { fetching := some 0x10000 }).admin.fetching = some 0x10000) ∧
    ((adminEntry 1).length = 64 ∧ 1 ≤ littleEndian (adminEntry 1) 2 1 ∧ littleEndian (adminEntry 1) 2 1 ≤ 0x16) ∧
    ((adminEntry 0x16).length = 64 ∧ 1 ≤ littleEndian (adminEntry 0x16) 2 1 ∧ littleEndian (adminEntry 0x16) 2 1 ≤ 0x16) ∧
    ((adminEntry 0).length = 64 ∧ littleEndian (adminEntry 0) 2 1 = 0) ∧
    ((adminEntry 0x17).length = 64 ∧ 0x16 < littleEndian (adminEntry 0x17) 2 1) ∧
    (((up.setSubRing 0 { sq16 with producer := 1 }).subRing 0).state = .active ∧
      ((up.setSubRing 0 { sq16 with producer := 1 }).subRing 0).producer
        ≠ ((up.setSubRing 0 { sq16 with producer := 1 }).subRing 0).consumer ∧
      up.regs.enable = true ∧ up.regs.fatal = false ∧ up.admin.job = none) ∧
    ¬ (up.subRing 0).producer ≠ (up.subRing 0).consumer := by decide +kernel

/-! ### Witnesses: administrative commands -/

theorem witness_CommandEndsWithOneRecord :
    (∃ j, (holds .census up).admin.job = some j) ∧ ((holds .census up).compRing 0).state = .active ∧
    (∃ j, (holds .census State.reset).admin.job = some j) ∧ ((holds .census State.reset).compRing 0).state ≠ .active :=
  ⟨⟨_, rfl⟩, by decide, ⟨_, rfl⟩, by decide⟩

theorem witness_BufferCommandsWriteThenEnd :
    (dispatched (holds (.identify 4) up) = some (.identify 4) ∧ (4 : Addr).toNat % 4 = 0) ∧
    (dispatched (holds (.identify 2) up) = some (.identify 2) ∧ (2 : Addr).toNat % 4 ≠ 0) ∧
    dispatched (holds (.nodeTableRead 4) up) = some (.nodeTableRead 4) ∧
    dispatched (holds (.nodeTableRead 2) up) = some (.nodeTableRead 2) ∧
    adminWait (waitsFor (.bufferWrite { addr := 4, bytes := [] } none) up)
      = some (.bufferWrite { addr := 4, bytes := [] } none) := by decide

theorem witness_SetParametersChecksThenSets :
    dispatched (holds (.setParameters 0xFE {}) running) = some (.setParameters 0xFE {}) ∧ running.loop.state ≠ .off ∧
    up.loop.state = .off ∧ ((0xFE : Byte).getLsbD 1 = true ∧ (0xFE : Byte).getLsbD 7 = true) ∧
    (∀ p, 1 ≤ p → p ≤ 7 → (0xFE : Byte).getLsbD p = true → ParamAllowed p (({} : Params).value p)) ∧
    (¬ ParamAllowed 1 (({ returnTimeout := 49 } : Params).value 1) ∧
      ¬ ParamAllowed 7 (({ retrain := 60001 } : Params).value 7)) ∧
    (∀ q, 1 ≤ q → q < 7 → (0xFE : Byte).getLsbD q = true → ParamAllowed q (({ retrain := 60001 } : Params).value q)) ∧
    ∀ p, 1 ≤ p → p ≤ 5 → (0xC0 : Byte).getLsbD p = false := by
  refine ⟨by decide, by decide, rfl, by decide, ?_, ?_, ?_, ?_⟩
  · intro p h1 h2 _; exact (paramInRange_iff p _ h1 h2).1 (by
      rcases (by omega : p = 1 ∨ p = 2 ∨ p = 3 ∨ p = 4 ∨ p = 5 ∨ p = 6 ∨ p = 7) with
        rfl | rfl | rfl | rfl | rfl | rfl | rfl <;> decide)
  · unfold ParamAllowed; decide
  · intro p h1 h2 _; exact (paramInRange_iff p _ h1 (by omega)).1 (by
      rcases (by omega : p = 1 ∨ p = 2 ∨ p = 3 ∨ p = 4 ∨ p = 5 ∨ p = 6) with
        rfl | rfl | rfl | rfl | rfl | rfl <;> decide)
  · intro p h1 h2
    rcases (by omega : p = 1 ∨ p = 2 ∨ p = 3 ∨ p = 4 ∨ p = 5) with rfl | rfl | rfl | rfl | rfl <;> decide

theorem witness_RingNamesHoldCompletionRings :
    dispatched (holds (.createSq 0 8 0 8192 1) up) = some (.createSq 0 8 0 8192 1) ∧
    dispatched (holds (.createSq 7 0 15 4096 64) up) = some (.createSq 7 0 15 4096 64) ∧
    (RingSize 4096 ∧ (64 : Addr).toNat % 64 = 0) ∧ (up.subRing 7).state = .absent ∧
    ((up.setSubRing 7 sq16).subRing 7).state ≠ .absent ∧ (up.compRing 0).state = .active ∧
    (up.compRing 7).state = .absent ∧ ((up.setCompRing 7 { state := .faulted }).compRing 7).state = .faulted ∧
    dispatched (holds (.deleteCq 8) up) = some (.deleteCq 8) ∧ dispatched (holds (.deleteCq 7) up) = some (.deleteCq 7) ∧
    (((up.setCompRing 7 cq16).compRing 7).state ≠ .absent ∧
      (List.finRange 8).countP (fun r : RingId => decide (1 ≤ r.val ∧ ((up.setCompRing 7 cq16).subRing r).state ≠ .absent
        ∧ ((up.setCompRing 7 cq16).subRing r).cq = 7)) = 0) ∧
    (List.finRange 8).countP (fun r : RingId =>
      decide (1 ≤ r.val ∧ (((up.setCompRing 7 cq16).setSubRing 1 { sq16 with cq := 7 }).subRing r).state ≠ .absent
        ∧ (((up.setCompRing 7 cq16).setSubRing 1 { sq16 with cq := 7 }).subRing r).cq = 7)) ≠ 0 :=
  ⟨by decide, by decide, ⟨size4096, by decide⟩, by decide, by decide, by decide, by decide, by decide, by decide, by decide,
    by decide, by decide⟩

theorem witness_RingDeletionAndAbortReachJobs :
    dispatched (holds (.deleteSq 0) running) = some (.deleteSq 0) ∧
    dispatched (holds (.deleteSq 7) running) = some (.deleteSq 7) ∧ (running.subRing 7).state = .absent ∧
    dispatched (holds (.deleteSq 1) (jobAt 11 readStep running)) = some (.deleteSq 1) ∧
    ((jobAt 11 readStep running).subRing 1).state ≠ .absent ∧ Reachable (jobAt 11 readStep running) 11 ∧
    dispatched (holds (.abortJob 1 5) (jobAt 11 readStep running)) = some (.abortJob 1 5) ∧
    dispatched (holds (.abortJob 8 5) running) = some (.abortJob 8 5) := by
  unfold Reachable; decide

theorem witness_CreateCqAndSetEventRing :
    dispatched (holds (.createCq 8 16 256 0 65536 1) up) = some (.createCq 8 16 256 0 65536 1) ∧ ¬ RingSize 0 ∧
    dispatched (holds (.createCq 7 15 255 16 65535 32) up) = some (.createCq 7 15 255 16 65535 32) ∧ RingSize 16 ∧
    ((7 : RingId).val = 7 ∧ (15 : Vec).val = 15 ∧ (32 : Addr).toNat % 32 = 0) ∧ (up.compRing 7).state = .absent ∧
    ((up.setCompRing 7 cq16).compRing 7).state ≠ .absent :=
  ⟨by decide, notSize0, by decide, size16, by decide, by decide, by decide⟩

theorem witness_CreateCqAndSetEventRing_event :
    dispatched (holds (.setEventRing 16 0 0 0 1) up) = some (.setEventRing 16 0 0 0 1) ∧ ¬ RingSize 0 ∧
    dispatched (holds (.setEventRing 15 255 4096 65535 32) up) = some (.setEventRing 15 255 4096 65535 32) ∧ RingSize 4096 ∧
    up.rings.event.writing = none ∧
    (up.setEventRing { writing := some { addr := 0, bytes := [], lastWord := 0 } }).rings.event.writing ≠ none :=
  ⟨by decide, notSize0, by decide, size4096, by decide, by decide⟩

/-- The part with the loop in a state. -/
def loopIn (l : LoopState) : State := up.setLoop { up.loop with state := l }

theorem witness_LoopStartAndStopByLoopState :
    (∀ l, dispatched (holds .loopStart (loopIn l)) = some .loopStart) ∧
    (∀ l, dispatched (holds .loopStop (loopIn l)) = some .loopStop) ∧ (∀ l, (loopIn l).loop.state = l) ∧
    (loopIn .off).regs.fatal = false ∧
    (dispatched (holds .loopStart (up.setRegs { fatal := true })) = some .loopStart
      ∧ (up.setRegs { fatal := true }).regs.fatal = true) :=
  ⟨fun _ => rfl, fun _ => rfl, fun _ => rfl, rfl, rfl, rfl⟩

theorem witness_CensusAndNodeResetClaim :
    dispatched (holds .census running) = some .census ∧ running.loop.state = .running ∧
    dispatched (holds .census up) = some .census ∧ up.loop.state ≠ .running ∧
    dispatched (holds (.nodeReset 0) running) = some (.nodeReset 0) ∧
    dispatched (holds (.nodeReset 31) running) = some (.nodeReset 31) ∧
    (dispatched (holds (.nodeReset 30) running) = some (.nodeReset 30) ∧ (running.node 29).state = .present) ∧
    (dispatched (holds (.nodeReset 2) running) = some (.nodeReset 2) ∧ (running.node 1).state = .absent) := by decide

theorem witness_LoadAndUnloadByListState :
    dispatched (holds (.loadList 63 0 0) up) = some (.loadList 63 0 0) ∧
    dispatched (holds (.loadList 63 256 0) up) = some (.loadList 63 256 0) ∧
    (up.stored 63 = .empty ∧ 256 ≤ freeSlots up.lists) ∧
    (lawful.stored 63 = .empty ∧ freeSlots lawful.lists < 256) ∧ (lawful.setStored 63 loadedList).stored 63 ≠ .empty ∧
    dispatched (holds (.unloadList 64) up) = some (.unloadList 64) ∧
    dispatched (holds (.unloadList 63) up) = some (.unloadList 63) ∧
    (up.setStored 63 loadedList).stored 63 = .loaded [readStep] 2 false 0 ∧
    (up.setStored 63 (.loaded [readStep] 2 false 1)).stored 63 = .loaded [readStep] 2 false 1 := by decide +kernel

/-- The step record of `readStep`. -/
def readBytes : List Byte := [1, 1, 3, 1, 1, 0, 2, 0, 0, 0, 0, 0, 0, 0, 0, 0]

/-- A LOAD LIST of one step waiting for its read. -/
def loadingOne : State := waitsFor (.loadList 63) (up.setStored 63 (.loading 1))

theorem witness_ListLoadReadEndHoldsList :
    adminWait loadingOne = some (.loadList 63) ∧ loadingOne.stored 63 = .loading 1 ∧ readBytes.length = 16 * 1 ∧
    parseSteps 1 0 readBytes = .ok [readStep] ∧ (zeros 16).length = 16 * 1 ∧ parseSteps 1 0 (zeros 16) = .error 0 :=
  ⟨by decide, by decide, rfl, rfl, rfl, rfl⟩

theorem witness_ValidationNamesFirstFailingStep :
    parseSteps 1 0 readBytes = .ok [readStep] ∧ parseSteps 2 0 (readBytes ++ zeros 16) = .error 1 := ⟨rfl, rfl⟩

theorem witness_AttentionAddChecksInOrder :
    dispatched (holds (.attentionAdd 31 8 3 64 0) up) = some (.attentionAdd 31 8 3 64 0) ∧
    (dispatched (holds (.attentionAdd 1 0 1 255 0) lawful) = some (.attentionAdd 1 0 1 255 0) ∧
      ∃ e ∈ lawful.attention.table, e.key = ⟨0, 0⟩) ∧
    (dispatched (holds (.attentionAdd 30 7 2 63 0) up) = some (.attentionAdd 30 7 2 63 0) ∧
      (∀ e ∈ up.attention.table, e.key ≠ ⟨29, 7⟩) ∧ up.attention.table.length < 64) ∧
    (up.setStored 63 (.loaded [writeStep] 0 true 0)).stored 63 = .loaded [writeStep] 0 true 0 ∧
    (up.setStored 63 loadedList).stored 63 = .loaded [readStep] 2 false 0 ∧
    (64 ≤ (List.replicate 64 ({ key := ⟨0, 0⟩, kind := .single, list := none, cookie := 0 } : AttentionEntry)).length ∧
      ∀ e ∈ List.replicate 64 ({ key := ⟨0, 0⟩, kind := .single, list := none, cookie := 0 } : AttentionEntry),
        e.key ≠ ⟨29, 7⟩) := by decide +kernel

theorem witness_AttentionAddChecksInOrder_missing : ∀ a b c d, up.stored 63 ≠ .loaded a b c d := notLoaded (by decide)

/-- The part with one attention entry, of key (node 1, source 7), in a state. -/
def entryIn (st : EntryState) (kind : EntryKind) (list : Option ListId) : State :=
  (up.setStored 0 (.loaded [readStep] 2 false 1)).setAttention
    { table := [{ key := ⟨0, 7⟩, kind, list, cookie := 0x55, state := st, reraise := true }] }

theorem witness_ArmAndDisarmByEntryState :
    dispatched (holds (.attentionArm 0 8) up) = some (.attentionArm 0 8) ∧
    (dispatched (holds (.attentionArm 1 7) (entryIn .disarmed .single none)) = some (.attentionArm 1 7) ∧
      ((entryIn .disarmed .single none).attentionEntry ⟨0, 7⟩).map AttentionEntry.state = some .disarmed) ∧
    (dispatched (holds (.attentionDisarm 1 7) (entryIn .armed .single none)) = some (.attentionDisarm 1 7) ∧
      ((entryIn .armed .single none).attentionEntry ⟨0, 7⟩).map AttentionEntry.state = some .armed) ∧
    ((entryIn .pending .single none).attentionEntry ⟨0, 7⟩).map AttentionEntry.state = some .pending ∧
    up.attentionEntry ⟨0, 7⟩ = none := by decide

theorem witness_AttentionDeleteRemovesEntry :
    dispatched (holds (.attentionDelete 31 0) up) = some (.attentionDelete 31 0) ∧
    (dispatched (holds (.attentionDelete 1 7) (entryIn .armed .single (some 0))) = some (.attentionDelete 1 7) ∧
      ((entryIn .armed .single (some 0)).attentionEntry ⟨0, 7⟩).map AttentionEntry.list = some (some 0)) ∧
    ((entryIn .disarmed .single none).attentionEntry ⟨0, 7⟩).map AttentionEntry.state = some .disarmed ∧
    ((entryIn .running .single none).attentionEntry ⟨0, 7⟩).map AttentionEntry.state = some .running ∧
    up.attentionEntry ⟨0, 7⟩ = none := by decide

theorem witness_SlotStartSetsSlot :
    dispatched (holds (.slotStart 8 0 3 16 0 1 3 1) up) = some (.slotStart 8 0 3 16 0 1 3 1) ∧
    dispatched (holds (.slotStart 7 63 2 15 600000 600000 1024 32) up) = some (.slotStart 7 63 2 15 600000 600000 1024 32) ∧
    (up.slot 7).state = .idle ∧ ((up.setSlot 7 { state := .active }).slot 7).state ≠ .idle ∧
    (up.setStored 63 (.loaded [readStep] 1024 false 0)).stored 63 = .loaded [readStep] 1024 false 0 ∧
    (up.setStored 63 (.loaded [readStep] 1025 false 0)).stored 63 = .loaded [readStep] 1025 false 0 ∧
    (up.setStored 63 (.loaded [writeStep] 0 true 0)).stored 63 = .loaded [writeStep] 0 true 0 := by decide

theorem witness_SlotStartSetsSlot_missing :
    ∀ a b c d, (up.setStored 63 (.loading 3)).stored 63 ≠ .loaded a b c d := notLoaded_of_loading (n := 3) (by decide)

/-- Slot 7 in a state, with or without a run. -/
def slotIn (st : SlotState) (r : Option RunRecord) : State :=
  running.setSlot 7 { state := st, period := 10, nextDue := 500, sequence := 3, missed := 2, run := r }

theorem witness_SlotStopAndResume :
    dispatched (holds (.slotStop 8) up) = some (.slotStop 8) ∧
    (dispatched (holds (.slotStop 7) up) = some (.slotStop 7) ∧ (up.slot 7).state = .idle) ∧
    (dispatched (holds (.slotStop 7) (slotIn .active none)) = some (.slotStop 7) ∧
      ((slotIn .active none).slot 7).state ≠ .idle ∧ ((slotIn .active none).slot 7).run = none) ∧
    ((slotIn .active (some { sequence := 3, start := 0, ctx := 12 })).slot 7).run ≠ none := by decide

theorem witness_SlotStopAndResume_resume :
    dispatched (holds (.slotResume 8) up) = some (.slotResume 8) ∧
    (dispatched (holds (.slotResume 7) (slotIn .suspended none)) = some (.slotResume 7) ∧
      ((slotIn .suspended none).slot 7).state = .suspended) ∧ ((slotIn .active none).slot 7).state ≠ .suspended := by decide

/-! ### Witnesses: jobs -/

/-- A job of ring context 11 changed. -/
def jobWith (f : Context → Context) : State := (jobAt 11 readStep running).modCtx 11 f

/-- An in-buffer write of a READ's two words. -/
def inWrite2 : InBufferWrite := { write := { addr := 0, bytes := zeros 8 }, valid := true, delivered := 2 }

theorem witness_ReachedJobActsByState :
    (State.reset.ctx 11).state = .free ∧ ((jobWith fun x => { x with state := .completing }).ctx 11).state = .completing ∧
    ((jobWith fun x => { x with state := .admitting }).ctx 11).state = .admitting ∧
    ((jobWith fun x => { x with state := .aborting }).ctx 11).state = .aborting ∧
    (((jobWith fun x => { x with state := .issued, inWrite := some inWrite2 }).ctx 11).state = .issued ∧
      ((jobWith fun x => { x with state := .issued, inWrite := some inWrite2 }).ctx 11).inWrite ≠ none) ∧
    (((jobWith fun x => { x with state := .issued }).ctx 11).state = .issued ∧
      ((jobWith fun x => { x with state := .issued }).ctx 11).inWrite = none) ∧
    ((jobWith fun x => { x with state := .deferred }).ctx 11).state = .deferred ∧
    ((jobWith fun x => { x with state := .paused, pause := some .busy }).ctx 11).state = .paused ∧
    (((jobWith id).ctx 11).state = .ready ∧ ((jobWith id).ctx 11).pending = none ∧ ((jobWith id).ctx 11).stopStep = none ∧
      ((jobWith id).ctx 11).stopCause = none) := by decide

/-- No record waits. -/
theorem handOverWaits_of_nil {s : State} (h : s.handOver = []) : HandOverWaits s := by
  intro before c after e; rw [h] at e; simp at e

/-- The only record that waits is that of a context whose read is in progress. -/
theorem handOverWaits_of_one {s : State} {c : CtxId} (h : s.handOver = [c]) (hr : (s.ctx c).reading ≠ none) :
    HandOverWaits s := by
  intro before d after e
  rw [h] at e
  rcases before with _ | ⟨b, before⟩
  · simp only [List.nil_append, List.cons.injEq] at e; exact .inl (e.1 ▸ hr)
  · simp at e

/-- Behind the job of context 0, in COMPLETING with a staging read in progress, the job of context 11. -/
def readingFirst : State :=
  (jobWith id).setHandOver [0] |>.setCtx 0
    { state := .completing, sq := 1, reading := some (.staging 0x5000 4), record := some (jobRecord .aborted {} 0) }

theorem witness_CompletingJobPostsItsRecord :
    HandOverWaits (jobWith id) ∧ HandOverWaits readingFirst ∧
    ((jobWith id).handOver = [] ∧ ((jobWith id).ctx 11).reading = none ∧
      ((jobWith id).compRing ((jobWith id).ctx 11).cq).state = .active) ∧
    ((jobWith fun x => { x with cq := 1 }).compRing 1).state ≠ .active ∧
    ((jobWith fun x => { x with list := .stored 0 }).ctx 11).list = .stored 0 ∧
    ((jobWith fun x => { x with reading := some (.staging 0 4) }).ctx 11).reading ≠ none ∧
    (11 ∉ readingFirst.handOver ∧ ∃ d ∈ readingFirst.handOver, (readingFirst.ctx d).cq = (readingFirst.ctx 11).cq) :=
  ⟨handOverWaits_of_nil rfl, handOverWaits_of_one rfl (by decide), by decide, by decide, by decide, by decide, by decide⟩

/-- A job waiting for its inline list read. -/
def admitting (p : Option Pending) : State :=
  jobWith fun x => { x with state := .admitting, list := .none, pending := p, reading := some (.inlineList 0x3000 16) }

theorem witness_ContextReadsEnd :
    (((admitting none).ctx 11).reading = some (.inlineList 0x3000 16) ∧ ((admitting none).ctx 11).state = .admitting ∧
      ((admitting none).ctx 11).pending = none) ∧
    ((admitting (some .deadline)).ctx 11).pending ≠ none ∧
    (readBytes.length = 16 ∧ parseSteps ((admitting none).ctx 11).stepCount 0 readBytes = .ok [readStep]) ∧
    ((zeros 16).length = 16 ∧ parseSteps ((admitting none).ctx 11).stepCount 0 (zeros 16) = .error 0) ∧
    (admitting none).loop.state = .running ∧
    ((admitting none).setLoop { (admitting none).loop with state := .broken }).loop.state ≠ .running ∧
    (((admitting none).modCtx 11 fun x => { x with state := .completing }).ctx 11).state = .completing ∧
    (((admitting none).modCtx 11 fun x => { x with state := .completing }).ctx 11).record = none :=
  ⟨by decide, by decide, ⟨rfl, rfl⟩, ⟨rfl, rfl⟩, by decide, by decide, by decide, by decide⟩

/-- A job waiting for a staging read of one word. -/
def staging : State :=
  (jobAt 11 writeStep running).modCtx 11 fun x => { x with reading := some (.staging 0x5000 4) }

theorem witness_ContextReadsEnd_staging :
    (staging.setLoop { staging.loop with state := .broken }).loop.state ≠ .running ∧
    ((staging.ctx 11).reading = some (.staging 0x5000 4) ∧ (staging.ctx 11).state = .ready ∧ staging.loop.state = .running ∧
      currentStep staging 11 = some writeStep ∧ nodeAt? writeStep.node = some 0 ∧ (zeros 4).length = 4) ∧
    (((staging.modCtx 11 fun x => { x with state := .completing }).ctx 11).reading = some (.staging 0x5000 4) ∧
      ((staging.modCtx 11 fun x => { x with state := .completing }).ctx 11).state = .completing ∧
      ((staging.modCtx 11 fun x => { x with state := .completing }).ctx 11).record = none) := by decide

/-- The job of context 11 in COMPLETING with its record kept and its read ended. -/
def keptRecord : State :=
  (jobWith fun x => { x with state := .completing, record := some (jobRecord .ok {} 0) }).setHandOver [11]

theorem witness_ContextReadsEnd_handOver :
    (keptRecord.compRing 0).state = .active ∧
    keptRecord.handOver = [((11 : CtxId), jobRecord .ok {} 0)].map Prod.fst ∧
    ∀ q ∈ [((11 : CtxId), jobRecord .ok {} 0)],
      (keptRecord.ctx q.1).reading = none ∧ (keptRecord.ctx q.1).record = some q.2 ∧ (keptRecord.ctx q.1).cq = 0 := by
  decide

/-- A READ whose two words are being written to the in-buffer. -/
def delivering : State := jobWith fun x => { x with state := .issued, inWrite := some inWrite2 }

theorem witness_InBufferWriteEndMovesCursor :
    (delivering.ctx 11).inWrite = some inWrite2 ∧ currentStep delivering 11 = some readStep ∧ readStep.kind = .read ∧
    readStep.requireValid = false := by decide

/-- A BLOCK_READ of which `n` words are left, one chunk of `d` words being written. -/
def blockReading (st : JobState) (inLen n d : Nat) : State :=
  (jobAt 11 { readStep with kind := .blockRead, count := n } running).modCtx 11 fun x =>
    { x with state := st, inLen, remaining := n, inWrite := some { inWrite2 with delivered := d, valid := false } }

theorem witness_InBufferWriteEndMovesCursor_block :
    currentStep (blockReading .issued 4096 17 16) 11 = some { readStep with kind := .blockRead, count := 17 } ∧
    (2 < min 16 ((blockReading .issued 4096 17 2).ctx 11).remaining) ∧
    (16 = min 16 ((blockReading .issued 4096 16 16).ctx 11).remaining
      ∧ ((blockReading .issued 4096 16 16).ctx 11).remaining ≤ 16) ∧
    (16 < ((blockReading .issued 4096 17 16).ctx 11).remaining ∧ ((blockReading .issued 4096 17 16).ctx 11).state ≠ .aborting
      ∧ 4 * min 16 (17 - 16) ≤ ((blockReading .issued 68 17 16).ctx 11).inLen - (0 + 4 * 16)) ∧
    ((blockReading .issued 67 17 16).ctx 11).inLen - (0 + 4 * 16) < 4 * min 16 (17 - 16) ∧
    ((blockReading .aborting 4096 17 16).ctx 11).state = .aborting ∧
    ((blockReading .issued 4096 17 16).ctx 11).inWrite.map InBufferWrite.valid = some false := by decide

theorem witness_StepEndingEndsJob :
    currentStep (jobWith id) 11 = some readStep ∧
    ((jobWith id).ctx 11).index + 1 = (stepsOf (jobWith id) ((jobWith id).ctx 11)).length ∧
    ((jobWith id).ctx 11).state ≠ .aborting ∧ ((jobWith id).ctx 11).stopStep = none ∧
    ((jobWith id).ctx 11).stopCause = none ∧ readStep.policy = .stop ∧
    currentStep (jobAt 11 { readStep with policy := .continue } running) 11 = some { readStep with policy := .continue } ∧
    (((jobWith fun x => { x with state := .aborting, pending := some .deadline }).ctx 11).state = .aborting ∧
      ((jobWith fun x => { x with state := .aborting, pending := some .deadline }).ctx 11).pending = some .deadline) := by
  decide

/-- A frame of an operation on tag 0, its transmission ended, with the reservation as given. -/
def flying (op : Operation) (f : Frame) (d : Option DeferId) (s : State) : State :=
  let s := s.setTag 0 (some { operation := op, seq := false, reservation := d, frame := f })
  s.setLoop { s.loop with transit := [{ transitRecord f with ended := some 0 }] }

/-- A frame on tag 0 that comes back well formed reaches its transaction. -/
theorem flying_reaches {op : Operation} {f g : Frame} {d : Option DeferId} {s : State}
    (hp : parseFrame (frameBytes g) = .frame g)
    (hi : ({ transitRecord f with ended := some 0 } : TransitRecord).isOf g = true)
    (ht : (transitRecord f).sender = .tag 0) (ha : g.attention = 0) (hc : g.collect = 0) :
    ReturnReaches (flying op f d s) (frameBytes g) g { transitRecord f with ended := some 0 } 0
      { operation := op, seq := false, reservation := d, frame := f } where
  arrives := hp
  found := by simp [flying, State.setLoop, hi]
  sender := ht
  held := by simp [flying, State.tag, State.setTag, State.setLoop, State.setWindow]
  own := rfl
  attention := ha
  collect := hc

/-- The job of context 11 ISSUED with a COMMAND of a kind. -/
def opC (op : CommandOp) : Operation :=
  { owner := .context 11, node := 0, command := some { op, point := 3, count := 2, immediate := none }, fresh := false }

/-- The frame of that COMMAND, which may be deferred under id 15. -/
def commandFrame (op : CommandOp) : Frame :=
  { kind := .command, addr := 1, point := 3, op := some op, count := 2, mayDefer := true, deferId := 15 }

/-- A job of one step of a kind, its COMMAND answered. -/
def answered (p : Step) (remaining : Nat) : State :=
  (jobAt 11 p running).modCtx 11 fun x => { x with state := .issued, remaining }

theorem witness_CommandDoneByStepKind :
    ReturnReaches (flying (opC .read) (commandFrame .read) (some 15) (answered readStep 0))
      (frameBytes { commandFrame .read with status := .done, delivered := 2, data := [1, 2] })
      { commandFrame .read with status := .done, delivered := 2, data := [1, 2] }
      { transitRecord (commandFrame .read) with ended := some 0 } 0
      { operation := opC .read, seq := false, reservation := some 15, frame := commandFrame .read } ∧
    (∀ k n, ((answered { readStep with kind := k } n).ctx 11).state = .issued) ∧
    (∀ k n, currentStep (answered { readStep with kind := k } n) 11 = some { readStep with kind := k }) ∧
    ((jobAt 15 readStep running).modCtx 15 fun x => { x with state := .aborting }).ctx 15
      = { (jobAt 15 readStep running).ctx 15 with state := .aborting } ∧
    (2 < min 16 ((answered { readStep with kind := .blockWrite } 17).ctx 11).remaining ∧
      ((answered { readStep with kind := .blockWrite } 16).ctx 11).remaining ≤ 16 ∧
      16 < ((answered { readStep with kind := .blockWrite } 17).ctx 11).remaining ∧ (running.node 0).state = .present) :=
  ⟨flying_reaches (by decide +kernel) (by decide +kernel) rfl rfl rfl,
    fun k n => by cases k <;> rfl, fun k n => by cases k <;> rfl, by decide, by decide⟩

/-! ### Witnesses: the wire -/

/-- A frame with every field at its largest value. -/
def fullFrame : Frame :=
  { kind := .nodeReset, tag := 7, retry := true, seq := true, mayDefer := true, addr := 255, point := 255, op := some .test,
    count := 255, deferId := 255, attention := 0xFFFFFFFF, collect := 0xFFFFFFFF, status := .unknown, valid := true,
    delivered := 255, replyId := 255, data := List.replicate 16 0xFFFFFFFF }

theorem witness_FrameBytesReadBack : FrameFits fullFrame ∧ fullFrame.status ≠ .invalid := by unfold FrameFits; decide

/-- The transmitter busy with a frame, and a frame waiting behind it or not. -/
def sending (w : List Frame) : State :=
  running.setLoop { running.loop with sending := some maskFrame, waiting := w, transit := [transitRecord maskFrame] }

/-- A COLLECT sent again on tag 1 after a CORRUPT return. -/
def collectFrame : Frame := { kind := .collect, tag := 1, addr := 1, retry := true }

/-- The COLLECT operation of node 1. -/
def opCollect : Operation := { owner := .collect 0, node := 0, fresh := false }

/-- STOPPING with the transmitter busy, a COMMAND on tag 0 and a COLLECT sent again on tag 1, and frames waiting. -/
def stoppingWith (w : List Frame) : State :=
  let s := ((answered readStep 0).setTag 0 (some { operation := opC .read, seq := false, frame := commandFrame .read })).setTag 1
    (some { operation := opCollect, seq := false, retry := true, crc := 1, frame := collectFrame })
  s.setLoop { s.loop with state := .stopping, sending := some maskFrame, waiting := w, transit := [transitRecord maskFrame] }

theorem witness_FrameTransmitEndSendsNext :
    ((sending []).loop.sending = some maskFrame ∧ (sending []).loop.waiting = [] ∧ running.loop.sending = none) ∧
    ((sending [maskFrame]).loop.waiting = maskFrame :: [] ∧ LoopPermits (sending []) maskFrame) ∧
    ((stoppingWith [commandFrame .read, collectFrame]).loop.waiting = commandFrame .read :: [collectFrame] ∧
      ¬ LoopPermits (stoppingWith []) (commandFrame .read) ∧ LoopPermits (stoppingWith []) collectFrame ∧
      (stoppingWith []).tag (commandFrame .read).tag
        = some { operation := opC .read, seq := false, frame := commandFrame .read }) ∧
    ((commandFrame .read).kind ≠ .train ∧ (commandFrame .read).kind ≠ .rate) :=
  ⟨by decide, ⟨rfl, rfl⟩,
    ⟨rfl, (fun h => by cases (h : LoopState.stopping = .running)), .inr ⟨rfl, rfl, fun tr h => by injection h with h; subst h; rfl⟩, rfl⟩, by decide⟩

/-- The bytes of a frame whose kind no code is assigned to, with a good CRC. -/
def unknownBytes : List Byte := zeros 20 ++ leBytes 2 (crc16 (zeros 20)).toNat

theorem witness_ReturnsMatchTransitRecords :
    (parseFrame [] = .corrupt ∧ up.loop.transit = []) ∧ parseFrame unknownBytes = .unknownKind ∧
    (parseFrame (frameBytes maskDoneFrame) = .frame maskDoneFrame ∧
      ∀ r ∈ up.loop.transit, ¬ (r.tag = maskDoneFrame.tag ∧ r.kind = maskDoneFrame.kind ∧ r.addr = maskDoneFrame.addr
        ∧ r.seq = maskDoneFrame.seq ∧ r.retry = maskDoneFrame.retry)) ∧
    (maskFlying.loop.transit = { transitRecord maskFrame with ended := some 0 } :: [] ∧
      (transitRecord maskFrame).sender = .tag 0 ∧ (maskFlying.tag 0).isSome = true) ∧
    (parseFrame (frameBytes trainFrame) = .frame trainFrame ∧ (transitRecord trainFrame).sender = .loop ∧
      (transitRecord trainFrame).isOf trainFrame = true ∧
      trainFrame.data = (List.replicate 8 [0xA5A5A5A5, 0x5A5A5A5A]).flatten ∧
      parseFrame (frameBytes { trainFrame with data := [] }) = .frame { trainFrame with data := [] }) := by decide +kernel

theorem witness_MaskDoneUpdatesNode :
    parseFrame (frameBytes maskDoneFrame) = .frame maskDoneFrame ∧
    (maskFlying.loop.transit.find? fun r => r.isOf maskDoneFrame) = some { transitRecord maskFrame with ended := some 0 } ∧
    (transitRecord maskFrame).sender = .tag 0 ∧
    maskFlying.tag 0 = some { operation := opMask, seq := false, frame := maskFrame } ∧
    (opMask.owner = .mask 0 ∧ opMask.node = 0) ∧
    (maskDoneFrame.status = .done ∧ maskDoneFrame.attention = 0 ∧ maskDoneFrame.collect = 0) ∧
    maskFlying.loop.state = .running := by decide +kernel

/-- A deferral entry of context 11 in the state that a reply finds. -/
def reservedFor (early : Option DeferredResult) : State :=
  (answered readStep 0).setEntry 15 (.reserved 11 0 .read 2 early)

/-- What a reply finds that carries deferral id 15, with any job state, busy count and withdrawal flag. -/
def replyReaches (withdrawn : Bool) (busy : Nat) (early : Option DeferredResult) (state : JobState) : State :=
  let s := (reservedFor early).modCtx 11 fun x => { x with state }
  let f := commandFrame .read
  let tr : Transaction :=
    { operation := { opC .read with busy }, seq := false, reservation := some 15, withdrawn
      frame := { f with mayDefer := true, deferId := 15 } }
  (s.setTag 0 (some tr)).setLoop { s.loop with transit := [{ transitRecord f with ended := some 0 }] }

/-- An early result with a status. -/
def earlyResult (status : ReplyStatus) : DeferredResult := { status, valid := false, delivered := 0, data := [] }

theorem witness_CommandReturnsByStatus :
    (∀ (w : Bool) (b : Nat) (e : Option DeferredResult) (x : JobState) (st : ReplyStatus),
      st = .refused ∨ st = .untouched ∨ st = .busy ∨ st = .deferred →
      ReturnReaches (replyReaches w b e x) (frameBytes { commandFrame .read with status := st, replyId := 15 })
        { commandFrame .read with status := st, replyId := 15 } { transitRecord (commandFrame .read) with ended := some 0 } 0
        { operation := { opC .read with busy := b }, seq := false, reservation := some 15, withdrawn := w
          frame := { commandFrame .read with mayDefer := true, deferId := 15 } }) ∧
    (∀ w b e, ((replyReaches w b e .issued).ctx 11).state = .issued ∧ ((replyReaches w b e .aborting).ctx 11).state = .aborting) ∧
    (∀ w b e x, (replyReaches w b e x).entry 15 = .reserved 11 0 .read 2 e) ∧
    (∀ w b e x, (replyReaches w b e x).params.busyLimit = running.params.busyLimit) ∧
    (opC .read).busy + 1 < running.params.busyLimit ∧ running.params.busyLimit ≤ { opC .read with busy := 15 }.busy + 1 := by
  refine ⟨fun w b e x st h => ?_, fun _ _ _ => ⟨rfl, rfl⟩, fun _ _ _ _ => rfl, fun _ _ _ _ => rfl, by decide, by decide⟩
  have hp : parseFrame (frameBytes { commandFrame .read with status := st, replyId := 15 })
      = .frame { commandFrame .read with status := st, replyId := 15 } := by
    rcases h with rfl | rfl | rfl | rfl <;> decide +kernel
  exact
    { arrives := hp, found := by rcases h with rfl | rfl | rfl | rfl <;> rfl, sender := rfl, held := rfl, own := rfl
      attention := rfl, collect := rfl }

/-- R114, R118: an early BUSY at the busy limit faults the step of a job in ABORTING, and its ending is recorded. Below it the
step has no ending. -/
theorem test_earlyBusy_aborting :
    let causes (b : Nat) :=
      let t := entryDeferred 11 15 { opC .read with busy := b } (replyReaches true b (some (earlyResult .busy)) .aborting)
      ((t.ctx 11).state, (t.ctx 11).stopCause)
    causes 15 = (.completing, some .busyLimit) ∧ causes 0 = (.completing, none) := by decide +kernel

/-- A frame of a node's own kind on tag 0. -/
def nodeFrame (kind : FrameKind) : Frame := { kind, addr := 1 }

/-- A reply to it. -/
def nodeReply (kind : FrameKind) (st : ReplyStatus) (data : List Word) : Frame :=
  { nodeFrame kind with status := st, replyId := 15, data }

/-- The node that replied, as the operations of class S see it. -/
def serving (o : Owner) (kind : FrameKind) (s : State) : State := flying { owner := o, node := 0, fresh := false } (nodeFrame kind) none s

theorem serving_reaches {o : Owner} {kind : FrameKind} {st : ReplyStatus} {data : List Word} {s : State}
    (hp : parseFrame (frameBytes (nodeReply kind st data)) = .frame (nodeReply kind st data))
    (ht : (transitRecord (nodeFrame kind)).sender = .tag 0) :
    ReturnReaches (serving o kind s) (frameBytes (nodeReply kind st data)) (nodeReply kind st data)
      { transitRecord (nodeFrame kind) with ended := some 0 } 0
      { operation := { owner := o, node := 0, fresh := false }, seq := false, frame := nodeFrame kind } :=
  flying_reaches hp (by simp [TransitRecord.isOf, transitRecord, nodeReply, nodeFrame]) ht rfl rfl

theorem witness_QueryCollectCancelReturns (s : State) (o : Owner) (st : ReplyStatus)
    (hst : st ≠ .invalid) (k : FrameKind) (hk : k = .query ∨ k = .collect ∨ k = .cancel) :
    ReturnReaches (serving o k s) (frameBytes (nodeReply k st [])) (nodeReply k st [])
      { transitRecord (nodeFrame k) with ended := some 0 } 0
      { operation := { owner := o, node := 0, fresh := false }, seq := false, frame := nodeFrame k } := by
  rcases hk with rfl | rfl | rfl <;> cases st <;>
    first | exact absurd rfl hst | exact serving_reaches (by decide +kernel) rfl

theorem witness_QueryCollectCancelReturns_entries :
    (running.setEntry 15 (.waiting 11 0 .read 2 100)).entry 15 = .waiting 11 0 .read 2 100 ∧
    (running.setEntry 15 (.reserved 11 0 .read 2 none)).entry 15 = .reserved 11 0 .read 2 none ∧
    (running.setEntry 15 (.orphaned 0 .read 2)).entry 15 = .orphaned 0 .read 2 ∧
    (running.setEntry 15 (.cancelling 0 .read 2)).entry 15 = .cancelling 0 .read 2 ∧ running.entry 15 = .free ∧
    (running.setEntry 15 (.cancelling 29 .read 2)).entry 15 = .cancelling 29 .read 2 ∧
    (nodeReply .collect .done []).replyId = (15 : DeferId).val ∧ (running.node 0).untouched + 1 < running.params.silence ∧
    (0 : Nat) + 1 < running.params.busyLimit ∧ running.params.busyLimit ≤ 15 + 1 := by decide

/-- The words of an identity record: 64 points and 8 sources, of rate codes 1 to 3. -/
def identityWords : List Word := [0x08400007, 0x1234, 0x0E]

/-- A census of every address under way, its last transaction not ended. -/
def counting (byCommand : Bool) : State :=
  running.setNodes { running.nodes with census := some { byCommand, claimed := 30, ended := 29 } }

theorem witness_CensusAndNodeResetReturns :
    (∀ st : ReplyStatus, st = .done ∨ st = .refused ∨ st = .untouched ∨ st = .busy →
      ReturnReaches (serving (.census 0) .census (counting true)) (frameBytes (nodeReply .census st identityWords))
        (nodeReply .census st identityWords) { transitRecord (nodeFrame .census) with ended := some 0 } 0
        { operation := { owner := .census 0, node := 0, fresh := false }, seq := false, frame := nodeFrame .census } ∧
      ReturnReaches (serving (.nodeReset 0) .nodeReset (waitsFor .nodeReset running)) (frameBytes (nodeReply .nodeReset st []))
        (nodeReply .nodeReset st []) { transitRecord (nodeFrame .nodeReset) with ended := some 0 } 0
        { operation := { owner := .nodeReset 0, node := 0, fresh := false }, seq := false, frame := nodeFrame .nodeReset }) ∧
    (counting true).nodes.census ≠ none ∧ adminWait (waitsFor .nodeReset running) = some .nodeReset ∧
    adminWait (waitsFor .census (counting true)) = some .census ∧
    (identityWords.getD 0 0).toNat / 65536 % 256 = 64 ∧ (identityWords.getD 0 0).toNat / 16777216 = 8 ∧
    (((identityWords.getD 2 0).setWidth 8 : Byte) &&& 0x0E).getLsbD running.loop.rate.code = true ∧
    (∀ d c op count due, running.entry d ≠ .waiting c (0 : NodeId) op count due) ∧
    ∃ old, (running.node 0).identity = some old ∧ old.serial = 0x1234 := by
  refine ⟨fun st h => ?_, by decide, by decide, by decide, by decide, by decide, by decide, ?_, identity, rfl, rfl⟩
  · rcases h with rfl | rfl | rfl | rfl <;>
      exact ⟨serving_reaches (by decide +kernel) rfl, serving_reaches (by decide +kernel) rfl⟩
  · intro d c op count due h
    have free : ∀ d, running.entry d = .free := by decide
    rw [free d] at h; cases h

theorem witness_LostSendingByLoopState :
    (maskFlying.loop.transit.find? fun r => r.sender = .tag 0 && r.ended.isSome)
      = some { transitRecord maskFrame with ended := some 0 } ∧
    maskFlying.tag 0 = some { operation := opMask, seq := false, frame := maskFrame } ∧ maskFlying.loop.state = .running ∧
    (maskFlying.loop.lost = 0 ∧
      stateAllows (sentKind { operation := opMask, seq := false, frame := maskFrame }) (maskFlying.node 0).state = true) ∧
    stateAllows (sentKind { operation := opMask, seq := false, frame := maskFrame }) (maskFlying.node 1).state = false ∧
    1 ≤ (maskFlying.setLoop { maskFlying.loop with lost := 1 }).loop.lost ∧
    (maskFlying.setLoop { maskFlying.loop with state := .stopping }).loop.state = .stopping ∧
    ([({ transitRecord trainFrame with ended := some 0 } : TransitRecord)].find? fun r => r.sender = .loop && r.ended.isSome)
      = some { transitRecord trainFrame with ended := some 0 } := by decide

/-- A MASK and a job's operation in BACKOFF. -/
def backoff : State := running.setWindow { running.window with backoff := [(opMask, 100), (opJ, 200)] }

theorem witness_BusyBackoffClaimsAgain :
    (backoff.window.backoff.find? fun o => o.1.owner = opMask.owner) = some (opMask, 100) ∧
    (backoff.window.backoff.find? fun o => o.1.owner = opJ.owner) = some (opJ, 200) ∧ backoff.loop.state = .running ∧
    (backoff.setLoop { backoff.loop with state := .broken }).loop.state ≠ .running ∧
    ((backoff.node 0).state = .present ∧ ((backoff.setNode 0 { state := .silent }).node 0).state = .silent ∧
      (backoff.node 1).state = .absent) ∧ opJ.owner = .context 0 ∧ (∀ c, opMask.owner ≠ .context c) ∧
    ¬ ((loopIn .census).loop.state = .running ∨ (loopIn .census).loop.state = .census ∧ ∃ n, opMask.owner = .census n) :=
  ⟨by decide, by decide, by decide, by decide, by decide, rfl, fun _ => nofun,
    fun h => h.elim nofun fun h => h.2.elim fun _ => nofun⟩

theorem witness_SignalLossAndTrainingTimersMoveLoop :
    (loopIn .census).loop.state = .census ∧ (loopIn .running).loop.state = .running ∧ (loopIn .off).loop.state ≠ .census ∧
    ((up.setLoop { state := .training, trainingTimer := some 50000 }).loop.state = .training ∧
      (up.setLoop { state := .training, trainingTimer := some 50000 }).loop.trainingTimer = some 50000) ∧
    ((up.setLoop { state := .broken, retrainTimer := some 250000 }).loop.state = .broken ∧
      (up.setLoop { state := .broken, retrainTimer := some 250000 }).loop.retrainTimer = some 250000) := by decide

/-- A MASK waiting, with tag 0 FREE and doubtful for its node. -/
def claiming : State := (running.setWindow { running.window with claimsS := [opMask] }).setDoubt 0 0 true

/-- Claims of both classes I and J waiting, and none of class S. -/
def bothWait (t : Turn) : State :=
  running.setWindow { running.window with claimsI := [opI], claimsJ := [opJ], turn := t }

/-- A NODE RESET of node 30, to which tag 0 is held, in front of a MASK of node 1, for which every FREE tag is doubtful. -/
def allDoubtful : State :=
  let s := running.setTag 0 (some { operation := { opMask with owner := .mask 29, node := 29 }, seq := false, frame := maskFrame })
  s.setWindow { s.window with
    claimsS := [{ owner := .nodeReset 29, node := 29 }, opMask], doubt := vset s.window.doubt 0 0xFF }

theorem witness_ArbiterChoosesClaimAndTag :
    (claiming.window.claimsS = opMask :: [] ∧ grantable claiming opMask = true ∧ claiming.tag 1 = none ∧
      claiming.doubtful opMask.node 1 = false ∧
      (∀ t' : Tag, t'.val < 1 → claiming.tag t' = none → claiming.doubtful opMask.node t' = true) ∧
      stateAllows (kindOf opMask.owner) (claiming.node opMask.node).state = true) ∧
    (allDoubtful.window.claimsS = { owner := .nodeReset 29, node := 29 } :: opMask :: [] ∧
      grantable allDoubtful { owner := .nodeReset 29, node := 29 } = false ∧ grantable allDoubtful opMask = true ∧
      allDoubtful.tag 1 = none ∧
      ∀ t' : Tag, allDoubtful.tag t' = none → allDoubtful.doubtful 0 t' = true ∧ (1 : Tag).val ≤ t'.val) ∧
    ((∀ op ∈ (bothWait .classI).window.claimsS, grantable (bothWait .classI) op = false) ∧
      (bothWait .classI).window.claimsI = opI :: [] ∧ (bothWait .classI).window.claimsJ = opJ :: [] ∧
      grantable (bothWait .classI) opI = true ∧ grantable (bothWait .classI) opJ = true ∧
      (bothWait .classI).window.turn = .classI ∧ (bothWait .classJ).window.turn = .classJ) ∧
    (∀ op ∈ running.window.claimsI, grantable running op = false) := by decide

theorem witness_GoodReturnSettlesPairAndSilence :
    (running.node 1).state ≠ .present ∧ (running.node 0).state = .present ∧
    (running.node 0).untouched + 1 < running.params.silence ∧
    running.params.silence ≤ ((running.setNode 0 { running.node 0 with untouched := 2 }).node 0).untouched + 1 := by decide

theorem witness_AttentionEntryByState :
    ∀ st kind list, (entryIn st kind list).attentionEntry ⟨0, 7⟩
      = some { key := ⟨0, 7⟩, kind, list, cookie := 0x55, state := st, reraise := true } := by
  intro st kind list; rfl

/-! ### Witnesses: timers and records -/

/-- A WAITING entry of context 11 at node 1, with the loop as given. -/
def deferring (l : LoopState) : State :=
  (((jobWith fun x => { x with state := .deferred }).setEntry 15 (.waiting 11 0 .read 2 200000)).setNode 0
    { state := .present, identity := some identity, outstanding := 1 }).setLoop { up.loop with state := l }

theorem witness_ContextAndDeferralTimers :
    (deferring .running).entry 15 = .waiting 11 0 .read 2 200000 ∧
    (((deferring .running).node 0).state = .present ∧ (deferring .running).loop.state = .running) ∧
    (deferring .broken).loop.state ≠ .running ∧ ((deferring .running).setNode 0 {}).entry 15 = .waiting 11 0 .read 2 200000 ∧
    (((deferring .running).setNode 0 {}).node 0).state ≠ .present ∧
    ((jobWith fun x => { x with deadline := some 9 }).ctx 11).deadline = some 9 ∧
    ((jobWith fun x => { x with pause := some (.delay 9) }).ctx 11).pause = some (.delay 9) := by decide

/-- An AWAIT of node 1 between two tries. -/
def awaiting : State :=
  (jobAt 11 { readStep with kind := .await, count := 0, interval := 10, limit := 3 } running).modCtx 11 fun x =>
    { x with state := .paused, pause := some (.await 100) }

theorem witness_ContextAndDeferralTimers_await :
    (awaiting.ctx 11).pause = some (.await 100) ∧ (currentStep awaiting 11).map Step.kind = some .await ∧
    nodeAt? 1 = some 0 ∧ (awaiting.node 0).state = .present ∧ awaiting.loop.state = .running := by decide

theorem witness_PeriodExpiryByState :
    (up.slot 7).state = .idle ∧ ((slotIn .active none).slot 7).sequence ≠ 0xFFFFFFFF ∧
    (((slotIn .active none).slot 7).state = .active ∧ (slotIn .active none).loop.state = .running ∧
      ((slotIn .active none).slot 7).run = none ∧ ((slotIn .active none).ctx 12).state = .free ∧
      ∀ d : CtxId, 12 ≤ d.val → d.val < 12 → ((slotIn .active none).ctx d).state ≠ .free) ∧
    ((slotIn .active (some { sequence := 3, start := 0, ctx := 12 })).slot 7).run ≠ none ∧
    ((slotIn .waitingLoop none).slot 7).state = .waitingLoop ∧ ((slotIn .suspended none).slot 7).state = .suspended ∧
    ((slotIn .active none).setLoop { up.loop with state := .broken }).loop.state ≠ .running ∧
    ((running.setSlot 7 { state := .active, sequence := 0xFFFFFFFF }).slot 7).sequence = 0xFFFFFFFF := by decide

/-- An event record being written, with its notice at the head. -/
def eventWriting (n : Notice) : State :=
  (up.setEventRing
    { state := .active, size := 16, producer := 15, phase := true, moderation := { count := 1 },
      writing := some { addr := 0, bytes := [], lastWord := 0 } }).setNotices [n]

/-- The notice of signal loss. -/
def lossNotice (held : Bool) : Notice :=
  { subject := .loop, body := .loop .broken .signalLost .r1, changed := 0, heldChange := held }

/-- The notice of an attention entry's posting. -/
def doneNotice : Notice := { subject := .attention ⟨0, 7⟩, body := .attention .none 0x55 none none [], changed := 0 }

theorem witness_EventRecordWriteEnds :
    ((eventWriting (lossNotice false)).rings.event.writing ≠ none ∧
      (eventWriting (lossNotice false)).notices = lossNotice false :: []) ∧
    adminWait (eventWriting (lossNotice false)) = none ∧
    adminWait (waitsFor (.eventWrite 15 1 16 0 32) (eventWriting (lossNotice false))) = some (.eventWrite 15 1 16 0 32) ∧
    (lossNotice true).heldChange = true ∧ (lossNotice false).heldChange = false ∧
    (doneNotice.heldChange = false ∧ doneNotice.subject = .attention ⟨0, 7⟩) ∧
    ∀ key, (lossNotice false).subject ≠ .attention key :=
  ⟨by decide, rfl, rfl, rfl, rfl, by decide, fun _ => nofun⟩

/-- Completion ring 0 writing the record of a job or of a command. -/
def recordWriting (k : RingId) (p : PostedRecord) : State :=
  (jobWith fun x => { x with state := .completing }).setCompRing k
    { cq16 with producer := 15, queue := [p], writing := some { addr := 0, bytes := [], lastWord := 28 } }

/-- The record of a command that ended OK. -/
def adminRecord : PostedRecord := .admin { tag := 0xABCD, code := 1, outcome := .ok, detail := none, endTime := 0 }

/-- The record of the job of context 11. -/
def jobDone : PostedRecord := .job 11 (jobRecord .ok ((jobWith id).ctx 11) 0)

theorem witness_CompletionRecordWrittenReleases :
    (((recordWriting 0 adminRecord).compRing 0).writing ≠ none ∧
      ((recordWriting 0 adminRecord).compRing 0).queue = adminRecord :: []) ∧
    (((recordWriting 0 jobDone).compRing 0).writing ≠ none ∧ ((recordWriting 0 jobDone).compRing 0).queue = jobDone :: [] ∧
      ((recordWriting 0 jobDone).ctx 11).reading = none) := by decide

theorem witness_CompletionWriteErrorFaultsRing :
    ((recordWriting 7 jobDone).compRing 7).writing ≠ none ∧ (7 : RingId) ≠ 0 ∧
    ((recordWriting 0 adminRecord).compRing 0).writing ≠ none := by decide

/-- The snapshot of period 3, before whose run one period was missed. -/
def snapshot3 : Snapshot :=
  { slot := 7, sequence := 3, start := 0, ended := 100, missedBefore := 1, outcome := .ok, stopStep := none,
    stopCause := none, continued := 0, words := [] }

/-- The run of period 3, its snapshot offered. -/
def run3 : RunRecord := { sequence := 3, start := 0, ctx := 12, snapshot := some snapshot3 }

/-- Slot 7's snapshot being written. -/
def snapshotWriting (st : SlotState) : State :=
  (slotIn st (some run3)).setCaptureRing 7
    { size := 4, producer := 3, consumer := 1, phase := true, writing := some { addr := 0, bytes := [], lastWord := 28 } }

/-- The same with a SLOT STOP waiting for the run. -/
def slotStopping : State :=
  let s := waitsFor (.slotStop 7) (snapshotWriting .active)
  s.setSlot 7 { s.slot 7 with stopWaiting := true }

theorem witness_SnapshotWriteEndSettlesSlot :
    ((snapshotWriting .active).captureRing 7).writing ≠ none ∧
    ((snapshotWriting .active).slot 7).run = some run3 ∧ run3.snapshot = some snapshot3 ∧
    ((snapshotWriting .active).slot 7).stopWaiting = false ∧ ((snapshotWriting .active).slot 7).state = .active ∧
    ((snapshotWriting .waitingLoop).slot 7).state = .waitingLoop ∧ ((snapshotWriting .suspended).slot 7).state = .suspended ∧
    (adminWait slotStopping = some (.slotStop 7) ∧ (slotStopping.slot 7).stopWaiting = true) := by decide

/-- Ring 7 with an entry posted and a credit left. -/
def posted : State :=
  let s := running.setSubRing 7 { sq16 with producer := 1 }
  s.setRings { s.rings with credits := vset s.rings.credits 7 1, pointer := 7 }

theorem witness_FetchDecisionSpendsCredit :
    1 ≤ posted.rings.pointer.val ∧
    (posted.regs.enable = true ∧ posted.regs.fatal = false ∧ posted.rings.fetch = none ∧
      ∃ c : CtxId, c.val < 12 ∧ (posted.ctx c).state = .free) ∧
    ((posted.subRing 7).state = .active ∧ (posted.subRing 7).producer ≠ (posted.subRing 7).consumer ∧
      (posted.compRing (posted.subRing 7).cq).state ≠ .faulted ∧ 0 < vget posted.rings.credits 7) ∧
    ((running.setSubRing 7 { sq16 with producer := 1 }).subRing 7).state = .active ∧
    (∀ r, vget (running.setSubRing 7 { sq16 with producer := 1 }).rings.credits r = 0) ∧
    (up.setRegs { ready := true }).regs.enable = false ∧ ∀ r : RingId, 1 ≤ r.val → (up.subRing r).state ≠ .active := by decide

/-! ### Witnesses: the clauses over the operations the commands share -/

/-- The transaction of the MASK of node 1 on tag 0. -/
def maskTr : Transaction := { operation := opMask, seq := false, frame := maskFrame }

/-- The transaction of an operation whose frame is of a kind. -/
def trOf (op : Operation) (kind : FrameKind) : Transaction :=
  { operation := op, seq := false
    frame := { kind, addr := 1, op := some .read, count := 2, mayDefer := true, deferId := 15 } }

/-- A reply that hands over words under an id. -/
def replyOf (status : ReplyStatus) (delivered id : Nat) : Frame :=
  { kind := .collect, addr := 1, status, delivered, replyId := id }

/-- A clean good return cannot be; a resend can be made below the CRC retry limit and not at it, by loop and node state. -/
theorem witness_ReturnsMatchTransitRecords_corrupt :
    ({ maskTr with withdrawn := true }.withdrawn = true ∧ maskTr.withdrawn = false ∧ kindOf maskTr.operation.owner = .mask) ∧
    ((loopIn .stopping).loop.state = .stopping ∧
      ¬ (maskTr.probe = false ∧ (kindOf maskTr.operation.owner = .collect ∨ kindOf maskTr.operation.owner = .cancel)) ∧
      running.loop.state ≠ .stopping ∧ kindOf opCollect.owner = .collect) ∧
    ((running.node 0).state = .present ∧ (up.node 0).state = .absent) ∧
    (running.params.crcLimit ≤ { maskTr with crc := 3 }.crc ∧ { maskTr with crc := 2 }.crc < running.params.crcLimit) ∧
    ((replyOf .invalid 0 0).status = .invalid ∧ (replyOf .unknown 0 0).status = .unknown ∧
      (replyOf .deferred 0 14).replyId ≠ (trOf opJ .command).frame.deferId ∧
      (trOf opJ .command).frame.count < (replyOf .done 3 0).delivered ∧ 16 < (replyOf .done 17 0).delivered ∧
      15 < (replyOf .done 0 16).replyId) ∧
    ((running.setEntry 15 (.waiting 11 0 .test 0 5)).entry 15 = .waiting 11 0 .test 0 5 ∧
      (15 : DeferId).val = (replyOf .done 1 15).replyId ∧ (replyOf .done 1 15).delivered ≠ 0) := by decide

theorem witness_EventRecordWriteEnds_notify :
    (∀ n ∈ up.notices, n.subject ≠ .loop) ∧
    (lawful.notices = [lossNotice false] ++ { subject := .node 0, body := .node .silent .silence 0, changed := 0 } :: [] ∧
      ∀ m ∈ [lossNotice false], m.subject ≠ .node 0) ∧
    (¬ ∃ st set, (lossNotice false).body = .node st .unclaimedAttention set) ∧
    (∃ st set, NoticeBody.node .present .unclaimedAttention 0x80 = .node st .unclaimedAttention set) :=
  ⟨by decide, by decide, (fun ⟨_, _, h⟩ => nomatch h), ⟨_, _, rfl⟩⟩

/-- An event ring with room, and a full one. -/
theorem witness_EventRecordWriteEnds_begins :
    let s := (rings2.setEventRing { rings2.rings.event with consumer := 3 }).setNotices [lossNotice false]
    (s.notices = lossNotice false :: [] ∧ s.rings.event.state = .active ∧ s.rings.event.writing = none ∧
      ¬ (s.rings.event.size = 0 ∨ (s.rings.event.producer + 1) % s.rings.event.size = s.rings.event.consumer)) ∧
    up.notices = [] ∧ up.rings.event.state ≠ .active := by decide

theorem witness_EventRecordWriteEnds_bytes :
    (doneNotice.subject = .attention ⟨0, 7⟩ ∧ doneNotice.body = .attention .none 0x55 none none []) ∧
    ((lossNotice false).subject = .loop ∧ (lossNotice false).body = .loop .broken .signalLost .r1) := by decide

theorem witness_CompletionRecordWrittenReleases_begins :
    let s := up.setCompRing 7 { cq16 with producer := 14, queue := [adminRecord] }
    ((s.compRing 7).state = .active ∧ (s.compRing 7).writing = none ∧ (s.compRing 7).queue = adminRecord :: [] ∧
      ¬ ((s.compRing 7).size = 0 ∨ ((s.compRing 7).producer + 1) % (s.compRing 7).size = (s.compRing 7).consumer)) ∧
    (∀ j : RingId, j.val < 7 → (s.compRing j).queue = []) ∧ ∀ j : RingId, (up.compRing j).queue = [] := by decide

/-- The run of period 3 on internal context 12. -/
def runOnly : RunRecord := { sequence := 3, start := 0, ctx := 12 }

/-- A context's run of a slot or of an attention entry, at its end. -/
def runOf (o : RunOwner) (s : State) : State := s.setCtx 12 { state := .ready, runOwner := some o }

/-- Slot 7's run at its end, its capture ring full. -/
def fullCapture (st : SlotState) (policy : FullPolicy) (stop : Bool) : State :=
  let s := running.setSlot 7
    { state := st, policy, sequence := 3, missed := 0xFFFFFFFF, run := some runOnly, snapshotSize := 32, stopWaiting := stop }
  (waitsFor (.slotStop 7) (runOf (.slot 7) s)).setCaptureRing 7 { size := 4, producer := 3, consumer := 0, phase := true }

theorem witness_SnapshotWriteEndSettlesSlot_run :
    (((runOf (.attention ⟨0, 7⟩) (entryIn .running .repeat (some 0))).ctx 12).runOwner = some (.attention ⟨0, 7⟩) ∧
      ((runOf (.attention ⟨0, 7⟩) (entryIn .running .repeat (some 0))).attentionEntry ⟨0, 7⟩).isSome) ∧
    (((runOf (.slot 7) (slotIn .active (some runOnly))).ctx 12).runOwner = some (.slot 7) ∧
      ((runOf (.slot 7) (slotIn .active (some runOnly))).slot 7).run = some runOnly) ∧
    (∀ st p b, ((fullCapture st p b).ctx 12).runOwner = some (.slot 7) ∧ ((fullCapture st p b).slot 7).run = some runOnly ∧
      (((fullCapture st p b).captureRing 7).producer + 1) % ((fullCapture st p b).captureRing 7).size
        = ((fullCapture st p b).captureRing 7).consumer ∧
      ((fullCapture st p b).slot 7).stopWaiting = b ∧ ((fullCapture st p b).slot 7).policy = p ∧
      ((fullCapture st p b).slot 7).state = st ∧ adminWait (fullCapture st p b) = some (.slotStop 7)) ∧
    ¬ (((running.setCaptureRing 7 { size := 4, producer := 2 }).captureRing 7).size = 0 ∨
      (((running.setCaptureRing 7 { size := 4, producer := 2 }).captureRing 7).producer + 1)
        % ((running.setCaptureRing 7 { size := 4, producer := 2 }).captureRing 7).size
        = ((running.setCaptureRing 7 { size := 4, producer := 2 }).captureRing 7).consumer) :=
  ⟨by decide, by decide, fun st p b => by cases st <;> cases p <;> cases b <;> decide, by decide⟩

theorem witness_SnapshotWriteEndSettlesSlot_bytes :
    32 ≤ 64 ∧ [1, 2][1]? = some 2 ∧ 36 + 4 * 1 ≤ 64 ∧ 32 + 4 * [1, 2].length ≤ 40 := by decide

/-- The entry of key (node 1, source 7) PENDING at the head of the queue, with the loop RUNNING. -/
def pendingRun : State :=
  let s := entryIn .pending .single (some 0)
  (s.setAttention { s.attention with queue := [⟨0, 7⟩] }).setLoop { s.loop with state := .running }

theorem witness_PeriodExpiryByState_runs :
    pendingRun.stored 0 = .loaded [readStep] 2 false 1 ∧ pendingRun.attention.queue = ⟨0, 7⟩ :: [] ∧
    pendingRun.loop.state = .running ∧ (pendingRun.ctx 12).state = .free ∧
    (pendingRun.attentionEntry ⟨0, 7⟩).map AttentionEntry.list = some (some 0) ∧
    up.attention.queue = [] ∧ up.loop.state ≠ .running ∧
    ∀ c : CtxId, 12 ≤ c.val →
      (((List.finRange 16).foldl (fun s c => s.setCtx c { state := .ready }) up).ctx c).state ≠ .free := by decide +kernel

theorem witness_RingDeletionAndAbortReachJobs_drained :
    let s := running.setSubRing 7 { sq16 with state := .draining }
    let f := waitsFor (.deleteSq 7 2) (running.setSubRing 7 { sq16 with state := .faulted })
    ((s.subRing 7).state = .draining ∧ (s.subRing 7).jobsHeld = 0 ∧ s.rings.fetch = none ∧
      ∀ q : RingId, q.val < 7 → (s.subRing q).state ≠ .draining ∧ (s.subRing q).state ≠ .faulted) ∧
    ((f.subRing 7).state = .faulted ∧ adminWait f = some (.deleteSq 7 2)) ∧
    ∀ r : RingId, (up.subRing r).state ≠ .draining ∧ (up.subRing r).state ≠ .faulted := by decide

theorem witness_LoopStartAndStopByLoopState_off :
    ((loopIn .stopping).loop.state = .stopping ∧ (∀ t, (loopIn .stopping).tag t = none) ∧
      adminWait (loopIn .stopping) = none ∧ adminWait (waitsFor .loopStop (loopIn .stopping)) = some .loopStop) ∧
    (loopIn .running).loop.state ≠ .stopping ∧ (maskFlying.tag 0).isSome = true := by decide

theorem witness_MaskDoneUpdatesNode_claim :
    let s := running.setNode 29 { state := .present, dirty := true }
    (s.loop.state = .running ∧ (s.node 29).state = .present ∧ (s.node 29).dirty = true ∧
      operationExists s (fun o => decide (o.owner = .mask 29)) = false ∧
      ∀ m : NodeId, m.val < 29 → (s.node m).dirty = false) ∧
    (loopIn .census).loop.state ≠ .running ∧ ∀ n, (running.node n).dirty = false := by decide +kernel

theorem witness_CensusAndNodeResetReturns_running :
    (running.loop.rate.code < RateCode.r3.code ∧ running.loop.rateSwitched = false) ∧
    ¬ (running.loop.rate.code < RateCode.r1.code) ∧ adminWait (waitsFor .loopStart running) = some .loopStart ∧
    adminWait running ≠ some .loopStart := by decide

/-- A context's job in every state; a CANCELLING entry. -/
theorem witness_LostSendingByLoopState_owners :
    (opC .read).owner = .context 11 ∧ (((jobWith fun x => { x with state := .completing }).ctx 11).state = .completing) ∧
    (((jobWith fun x => { x with state := .aborting, pending := some .deadline }).ctx 11).state = .aborting ∧
      ((jobWith fun x => { x with state := .aborting, pending := some .deadline }).ctx 11).pending = some .deadline) ∧
    (up.nodes.census = none ∧ (counting true).nodes.census ≠ none ∧ ((counting true).node 0).state = .present ∧
      ((counting true).node 1).state ≠ .present) ∧
    (adminWait running ≠ some .nodeReset ∧ adminWait (waitsFor .nodeReset running) = some .nodeReset) ∧
    ((running.setEntry 15 (.cancelling 29 .read 2)).entry 15 = .cancelling 29 .read 2 ∧ running.entry 15 = .free) ∧
    maskTr.withdrawn = false := by decide

theorem witness_SignalLossAndTrainingTimersMoveLoop_start :
    adminWait (waitsFor .loopStart up) = some .loopStart ∧ adminWait up ≠ some .loopStart := by decide

theorem witness_BreakEmptiesWindowAndTable_census :
    up.nodes.census = none ∧ (counting true).nodes.census = some { byCommand := true, claimed := 30, ended := 29 } ∧
    adminWait (waitsFor .census (counting true)) = some .census ∧
    (counting false).nodes.census = some { byCommand := false, claimed := 30, ended := 29 } := by decide

/-- The MASK claim of a node that is not PRESENT. -/
def opLost : Operation := { owner := .mask 1, node := 1, fresh := false }

/-- A claim chosen with tag 0 FREE: of a PRESENT and of an ABSENT node. -/
theorem witness_ArbiterChoosesClaimAndTag_grant :
    (chooseClaim claiming = some (opMask, { claiming.window with claimsS := [] }) ∧ claiming.tag 1 = none ∧
      (claiming.node opMask.node).state = .present) ∧
    (chooseClaim (running.setWindow { running.window with claimsS := [opLost] }) = some (opLost, running.window) ∧
      (running.node opLost.node).state ≠ .present) ∧
    (∀ c, opMask.owner ≠ .context c) ∧
    ((List.finRange 8).foldl (fun s t => s.setTag t (some maskTr)) running).tag 7 = some maskTr :=
  ⟨by decide, by decide, fun _ => nofun, by decide⟩

/-- A job that allows deferral, with one entry left whose id is not held over. -/
theorem witness_ArbiterChoosesClaimAndTag_reserves :
    let s := (jobWith fun x => { x with allowDefer := true }).setHeldOver 0 0x7FFF
    ((opC .read).owner = .context 11 ∧ (opC .read).command.isSome = true) ∧
    ((11 : CtxId).val < 12 ∧ (s.ctx 11).allowDefer = true ∧ (s.node 0).outstanding < 4) ∧
    (s.entry 15 = .free ∧ (s.heldOver 0).getLsbD (15 : DeferId).val = false) ∧
    (∀ e : DeferId, e.val < 15 → (s.heldOver 0).getLsbD e.val = true) ∧ ((jobWith id).ctx 11).allowDefer = false := by decide

/-- Two claims of one event behind an older one. -/
theorem witness_ArbiterChoosesClaimAndTag_order :
    (∀ o ∈ [opMask], o.fresh = false) ∧
    ∀ o ∈ ([{ owner := .collect 0, node := 0 }, { owner := .query 0, node := 0 }] : List Operation), o.fresh = true := by decide

theorem witness_ArbiterChoosesClaimAndTag_probe :
    ({ maskTr with probe := true }.probe = true ∧ (replyOf .done 0 0).delivered = 0 ∧ maskTr.withdrawn = false) ∧
    ((loopIn .stopping).loop.state = .stopping ∧ running.loop.state ≠ .stopping) ∧
    ((running.node maskTr.operation.node).state = .present ∧ (up.node maskTr.operation.node).state = .absent) ∧
    (running.params.busyLimit ≤ 15 + 1 ∧ (14 : Nat) + 1 < running.params.busyLimit) ∧
    ((jobWith fun x => { x with state := .issued }).ctx 11).state = .issued := by decide

/-- A job of context 11 with two steps, at its first. -/
def twoSteps (p : Step) : State :=
  (jobAt 11 p running).modCtx 11 fun x => { x with list := .inline [p, writeStep], stepCount := 2 }

theorem witness_StepEndingEndsJob_begins :
    (∀ p, currentStep (twoSteps p) 11 = some p ∧ ((twoSteps p).ctx 11).state = .ready ∧
      ((twoSteps p).ctx 11).stopCause = none ∧ ((twoSteps p).ctx 11).staging = [] ∧ (stepsOf (twoSteps p) ((twoSteps p).ctx 11)).length ≤ 256 ∧
      (twoSteps p).loop.state = .running ∧ ((twoSteps p).node 0).state = .present ∧
      (((twoSteps p).setNode 0 { state := .silent }).node 0).state = .silent ∧ ((twoSteps p).node 1).state = .absent ∧
      ((twoSteps p).ctx 11).inLen - ((twoSteps p).ctx 11).inCursor = 64) ∧
    (4 * 16 ≤ 64 ∧ (64 : Nat) < 4 * 17 ∧ readStep.node = (0 : NodeId).val + 1 ∧ writeStep.source = .outBuffer) ∧
    (∃ c : CtxId, opI.owner = .context c ∧ 12 ≤ c.val) ∧ (∃ c : CtxId, opJ.owner = .context c ∧ c.val < 12) ∧
    (∀ c, opMask.owner ≠ .context c) ∧ currentStep running 12 = none ∧ up.loop.state ≠ .running ∧
    (∀ n : NodeId, ({ readStep with node := 31 } : Step).node ≠ n.val + 1) :=
  ⟨fun _ => ⟨rfl, rfl, rfl, rfl, (by show 2 ≤ 256; decide), rfl, rfl, rfl, rfl, rfl⟩, by decide, ⟨12, rfl, by decide⟩,
    ⟨0, rfl, by decide⟩, fun _ => nofun, by decide, by decide, by decide⟩

/-! ### Witnesses: clauses over node and loop states, BUSY and the internal runs -/

/-- The part with node 1 in a state and the loop in a state. -/
def placed (n : NodeState) (l : LoopState) (s : State) : State :=
  (s.setNode 0 { s.node 0 with state := n }).setLoop { s.loop with state := l }

/-- The node and the loop may be in any state while the in-buffer write of a full chunk with words left ends, and while an AWAIT
waits for its interval. -/
theorem witness_InBufferWriteEndMovesCursor_placed (n : NodeState) (l : LoopState) :
    ((placed n l (blockReading .issued 4096 17 16)).ctx 11) = (blockReading .issued 4096 17 16).ctx 11 ∧
    ((placed n l (blockReading .issued 4096 17 16)).node 0).state = n ∧
    (placed n l (blockReading .issued 4096 17 16)).loop.state = l ∧
    ((placed n l awaiting).ctx 11).pause = some (.await 100) ∧ ((placed n l awaiting).node 0).state = n ∧
    (placed n l awaiting).loop.state = l := by
  cases n <;> cases l <;> decide

/-- A run of internal context 12, or a job of ring context 11, at a step answered in a state. -/
def answeredAt (c : CtxId) (p : Step) (st : JobState) (remaining : Nat) : State :=
  (jobAt c p running).modCtx c fun x => { x with state := st, remaining, outLen := 4096 }

theorem witness_CommandDoneByStepKind_block :
    (0 < ((answeredAt 11 { readStep with kind := .blockRead } .issued 1).ctx 11).remaining ∧ (11 : CtxId).val < 12) ∧
    (∀ c st, c = 12 ∨ c = 15 → st = .issued ∨ st = .aborting →
      12 ≤ c.val ∧ ((answeredAt c { readStep with kind := .blockRead } st 17).ctx c).state = st ∧
      16 < ((answeredAt c { readStep with kind := .blockRead } st 17).ctx c).remaining ∧
      15 < min 16 ((answeredAt c { readStep with kind := .blockRead } st 17).ctx c).remaining ∧
      currentStep (answeredAt c { readStep with kind := .blockRead } st 17) c
        = some { readStep with kind := .blockRead }) ∧
    (∀ k, k = .await ∨ k = .blockWrite →
      ((answeredAt 11 { readStep with kind := k } .aborting 17).ctx 11).state = .aborting ∧
      currentStep (answeredAt 11 { readStep with kind := k } .aborting 17) 11 = some { readStep with kind := k }) ∧
    ((answeredAt 11 { readStep with kind := .await, limit := 3 } .aborting 0).ctx 11).tries + 1 ≠ 3 ∧
    ∀ n l, ((placed n l (answeredAt 12 { readStep with kind := .blockRead } .issued 17)).node 0).state = n ∧
      (placed n l (answeredAt 12 { readStep with kind := .blockRead } .issued 17)).loop.state = l := by
  refine ⟨by decide, ?_, ?_, by decide, fun n l => ?_⟩
  · rintro c st (rfl | rfl) (rfl | rfl) <;> decide
  · rintro k (rfl | rfl) <;> decide
  · cases n <;> cases l <;> decide

/-- A RATE frame that waits is not permitted in RUNNING, nor a TRAIN frame. -/
theorem witness_FrameTransmitEndSendsNext_training :
    (∀ g, g = trainFrame ∨ g = rateFrame .r2 → (sending [g]).loop.waiting = g :: [] ∧ ¬ LoopPermits (sending []) g ∧
      (g.kind = .train ∨ g.kind = .rate)) ∧
    (sending [trainFrame, maskFrame]).loop.waiting = trainFrame :: [maskFrame] ∧ LoopPermits (sending []) maskFrame := by
  refine ⟨?_, rfl, rfl⟩
  rintro g (rfl | rfl)
  · exact ⟨rfl, (fun h => by cases (h : LoopState.running = .training)), .inl rfl⟩
  · exact ⟨rfl, (fun h => by cases (h : LoopState.running = .census)), .inr rfl⟩

/-- The MASK in flight on tag 0, with a busy count, withdrawn or not, the loop in a state. -/
def maskIn (busy : Nat) (withdrawn : Bool) (l : LoopState) : State :=
  let s := running.setTag 0 (some { operation := { opMask with busy }, seq := false, withdrawn, frame := maskFrame })
  s.setLoop { s.loop with state := l, transit := [{ transitRecord maskFrame with ended := some 0 }] }

theorem witness_MaskDoneUpdatesNode_status :
    (∀ (b : Nat) (w : Bool) (l : LoopState) (st : ReplyStatus), st = .done ∨ st = .refused ∨ st = .untouched ∨ st = .busy →
      ReturnReaches (maskIn b w l) (frameBytes { maskFrame with status := st }) { maskFrame with status := st }
        { transitRecord maskFrame with ended := some 0 } 0
        { operation := { opMask with busy := b }, seq := false, withdrawn := w, frame := maskFrame }) ∧
    (∀ b w l, (maskIn b w l).loop.state = l ∧ (maskIn b w l).params.busyLimit = 16) ∧
    16 ≤ { opMask with busy := 15 }.busy + 1 ∧ ¬ 16 ≤ { opMask with busy := 14 }.busy + 1 := by
  refine ⟨fun b w l st h => ?_, fun _ _ _ => ⟨rfl, rfl⟩, by decide, by decide⟩
  have hp : parseFrame (frameBytes { maskFrame with status := st }) = .frame { maskFrame with status := st } := by
    rcases h with rfl | rfl | rfl | rfl <;> decide +kernel
  exact
    { arrives := hp, found := by rcases h with rfl | rfl | rfl | rfl <;> rfl, sender := rfl, held := rfl, own := rfl
      attention := rfl, collect := rfl }

/-- A job in ISSUED whose COMMAND returns in STOPPING, or with the words it asked for. -/
theorem witness_CommandReturnsByStatus_stopping :
    ((placed .present .stopping (replyReaches false 0 none .issued)).loop.state = .stopping ∧
      ((placed .present .stopping (replyReaches false 0 none .issued)).ctx 11).state = .issued) ∧
    (placed .present .stopping (replyReaches false 0 (some (earlyResult .busy)) .issued)).entry 15
      = .reserved 11 0 .read 2 (some (earlyResult .busy)) ∧
    ((commandFrame .read).op = some .read ∧
      ({ commandFrame .read with status := .refused, delivered := 2, data := [1, 2] } : Frame).delivered
        ≤ (commandFrame .read).count) ∧
    parseFrame (frameBytes { commandFrame .read with status := .refused, delivered := 2, data := [1, 2] })
      = .frame { commandFrame .read with status := .refused, delivered := 2, data := [1, 2] } := by decide +kernel

/-- A transaction of a node's own kind on tag 0, with its busy count, withdrawn or not, the loop in a state. -/
def servingIn (o : Owner) (kind : FrameKind) (busy : Nat) (withdrawn : Bool) (l : LoopState) (s : State) : State :=
  let s := s.setTag 0 (some { operation := { owner := o, node := 0, busy, fresh := false }, seq := false, withdrawn
                              frame := nodeFrame kind })
  s.setLoop { s.loop with state := l, transit := [{ transitRecord (nodeFrame kind) with ended := some 0 }] }

/-- A BUSY or an UNTOUCHED reaches a QUERY, a COLLECT, a CANCEL, a CENSUS or a NODE RESET with any busy count, withdrawn or not,
in any loop state; and a busy count of 15 is at the limit, one of 14 below it. -/
theorem witness_QueryCollectCancelReturns_busy (o : Owner) (k : FrameKind) (b : Nat) (w : Bool) (l : LoopState) (s : State)
    (st : ReplyStatus) (hk : k = .query ∨ k = .collect ∨ k = .cancel ∨ k = .census ∨ k = .nodeReset)
    (hst : st = .busy ∨ st = .untouched) :
    ReturnReaches (servingIn o k b w l s) (frameBytes (nodeReply k st [])) (nodeReply k st [])
      { transitRecord (nodeFrame k) with ended := some 0 } 0
      { operation := { owner := o, node := 0, busy := b, fresh := false }, seq := false, withdrawn := w
        frame := nodeFrame k } where
  arrives := by
    rcases hk with rfl | rfl | rfl | rfl | rfl <;> rcases hst with rfl | rfl <;> decide +kernel
  found := by simp [servingIn, State.setLoop, TransitRecord.isOf, transitRecord, nodeReply, nodeFrame]
  sender := by rcases hk with rfl | rfl | rfl | rfl | rfl <;> rfl
  held := by simp [servingIn, State.tag, State.setTag, State.setLoop, State.setWindow]
  own := rfl
  attention := rfl
  collect := rfl

theorem witness_QueryCollectCancelReturns_limit :
    (∀ o k b w l, (servingIn o k b w l running).loop.state = l ∧
      (servingIn o k b w l running).params.busyLimit = 16) ∧ 16 ≤ 15 + 1 ∧ ¬ 16 ≤ 14 + 1 ∧
    (let s := (running.setNode 0 { running.node 0 with untouched := 2 }).setEntry 15 (.cancelling 0 .read 2)
     (s.node 0).state = .present ∧ s.params.silence ≤ (s.node 0).untouched + 1 ∧ s.entry 15 = .cancelling 0 .read 2) ∧
    (let s := placed .present .stopping (running.setEntry 15 (.waiting 11 0 .read 2 100))
     s.loop.state = .stopping ∧ s.entry 15 = .waiting 11 0 .read 2 100) ∧ (opC .read).busy + 1 < 16 :=
  ⟨fun _ _ _ _ _ => ⟨rfl, rfl⟩, by decide, by decide, by decide, by decide, by decide⟩

/-- A CENSUS of a node in any state under way, and a NODE RESET of a node with a WAITING entry. -/
theorem witness_CensusAndNodeResetReturns_states :
    (∀ l w b, (servingIn (.census 0) .census b w l (counting true)).nodes.census.isSome ∧
      (servingIn (.census 0) .census b w l (counting true)).loop.state = l) ∧
    (∀ l w b, adminWait (servingIn (.nodeReset 0) .nodeReset b w l (waitsFor .nodeReset (deferring .running)))
      = some .nodeReset) ∧
    ((waitsFor .nodeReset (deferring .running)).entry 15 = .waiting 11 0 .read 2 200000 ∧
      ((waitsFor .nodeReset (deferring .running)).ctx 11).state.hasOperation = true) :=
  ⟨fun _ _ _ => ⟨rfl, rfl⟩, fun _ _ _ => rfl, by decide⟩

/-- A LOOP STOP and a LOOP START wait while ring 0 writes a record; and no command waits. -/
theorem witness_CompletionWriteErrorFaultsRing_fatal :
    (∀ e, e = .loopStop ∨ e = .loopStart →
      adminWait (waitsFor e (recordWriting 0 jobDone)) = some e ∧
      ((waitsFor e (recordWriting 0 jobDone)).compRing 0).writing ≠ none) ∧
    adminWait (recordWriting 0 adminRecord) = none := by
  refine ⟨?_, by decide⟩
  rintro e (rfl | rfl) <;> decide

/-- R127: after an event, an entry posted in ring 7 with a credit left is fetched, and then nothing is enabled. -/
theorem test_react_fetches :
    (react posted).rings.fetch = some { ring := 7, addr := 0x10000 } ∧ settleStep (react posted) = none := by decide +kernel

/-! ### Behaviours: resets and the register window -/

/-- R142: a reset during work leaves every block at its reset value; a function reset keeps the masked flags (R135). -/
theorem test_functionReset_keeps_masks :
    (run .functionReset (running.setHost { pendingFlags := 1, maskedFlags := 2, messages := [] })).host
      = { pendingFlags := 0, maskedFlags := 2, messages := [] } := by decide
theorem test_pcieReset_masks_vectors :
    (run .pcieReset (running.setHost { pendingFlags := 1, maskedFlags := 2, messages := [] })).host.maskedFlags = 0xFFFF := by
  decide
theorem test_powerOn_stops_loop : (run .powerOn running).loop.state = .off := by decide
/-- R141: after initialisation STATUS shows READY and QUIESCED. -/
theorem test_initialisationEnd_status : readRegister (run .initialisationEnd State.reset) 0x08 = 5 := by decide
/-- R140: valid registers create the admin rings; invalid ones set CONFIG ERROR, bit 5 of STATUS. -/
theorem test_enableSet_creates : ((run .enableSet (registers 64 16 32 4096)).compRing 0).size = 4096 := by decide +kernel
theorem test_enableSet_invalid : readRegister (run .enableSet (registers 63 16 32 16)) 0x08 = 37 := by decide +kernel
theorem test_enableCleared_status : readRegister (run .enableCleared up) 0x08 = 5 := by decide
theorem test_adminRegisterWrite_high :
    (run (.adminRegisterWrite .sqBaseHigh 0x89ABCDEF) (registers 0x40 0 0 0)).regs.adminSqBase = 0x89ABCDEF00000040 := by
  decide
/-- R139: offset 7Ch is index slot 15, completion ring 7; offset A4h is no ring's. -/
theorem test_registerWrite_consumer7 :
    (((run (.registerWrite 0x7C 1) (up.setCompRing 7 { cq16 with producer := 1 })).compRing 7).consumer) = 1 := by
  decide +kernel
theorem test_registerWrite_slot25 : run (.registerWrite 0xA4 1) up = up := by decide
/-- R126: the last index is taken, the size faults the ring. -/
theorem test_producerIndexWrite_last : ((run (.producerIndexWrite 1 15) (up.setSubRing 1 sq16)).subRing 1).producer = 15 := by
  decide +kernel
theorem test_producerIndexWrite_faults :
    ((run (.producerIndexWrite 1 16) (up.setSubRing 1 sq16)).subRing 1).state = .faulted := by decide +kernel
/-- R132: across the wrap, up to the producer index and no further. -/
theorem test_completionConsumerIndexWrite_wraps :
    ((run (.completionConsumerIndexWrite 0 1) rings2).compRing 0).consumer = 1 := by decide +kernel
theorem test_completionConsumerIndexWrite_passes :
    ((run (.completionConsumerIndexWrite 0 2) rings2).compRing 0).consumer = 15 := by decide +kernel
theorem test_eventConsumerIndexWrite_wraps : (run (.eventConsumerIndexWrite 1) rings2).rings.event.consumer = 1 := by
  decide +kernel
theorem test_captureConsumerIndexWrite_wraps :
    ((run (.captureConsumerIndexWrite 0 0) rings2).captureRing 0).consumer = 0 := by decide +kernel
/-- R135: unmasking sends one message for a pending flag. -/
theorem test_msixVectorMaskWrite_sends :
    (run (.msixVectorMaskWrite 15 false) (up.setHost { pendingFlags := 0x8000, maskedFlags := 0xFFFF, messages := [] })).host
      = { pendingFlags := 0, maskedFlags := 0x7FFF, messages := [15] } := by decide

/-! ### Behaviours: administrative commands -/

/-- R197: the code in byte 2, the tag in bytes 0 and 1. -/
theorem test_adminFetchReadEnd_reads :
    ((run (.adminFetchReadEnd (.data (adminEntry 0x0A))) (up.setAdmin { fetching := some 0x10000 })).admin.job.map fun j =>
      (j.tag, j.command)) = some (0xABCD, .census) := by decide +kernel
theorem test_adminFetchReadEnd_unknown :
    ended (run (.adminFetchReadEnd (.data (adminEntry 0x17))) (up.setAdmin { fetching := some 0x10000 }))
      = some (.malformed, none) := by decide +kernel
/-- R200: the identity block begins with IDENT and the capacities. -/
theorem test_identify_bytes : (identityBytes up).take 8 = [0x30, 0x04, 0x01, 0x00, 0x0E, 30, 8, 16] := by decide +kernel
theorem test_identify_misaligned : ended (run .identify (holds (.identify 2) up)) = some (.malformed, none) := by
  decide +kernel
theorem test_setParameters_locked :
    ended (run .setParameters (holds (.setParameters 0x84 {}) running)) = some (.badState, some 2) := by decide +kernel
theorem test_setParameters_retrain :
    (run .setParameters (holds (.setParameters 0x80 { retrain := 0, crcLimit := 7 }) running)).params = { retrain := 0 } := by
  decide +kernel
theorem test_createSq_noCq : ended (run .createSq (holds (.createSq 1 7 1 16 64) up)) = some (.notFound, none) := by
  decide +kernel
theorem test_deleteSq_empty : ended (run .deleteSq (holds (.deleteSq 1) (up.setSubRing 1 sq16))) = some (.ok, some 0) := by
  decide +kernel
theorem test_createCq_phase : ((run .createCq (holds (.createCq 7 3 1 16 0 32) up)).compRing 7).phase = true := by
  decide +kernel
theorem test_deleteCq_named :
    ended (run .deleteCq (holds (.deleteCq 7) ((up.setCompRing 7 cq16).setSubRing 1 { sq16 with cq := 7 })))
      = some (.inUse, some 1) := by decide +kernel
theorem test_setEventRing_clears :
    (run .setEventRing (holds (.setEventRing 0 1 16 0 32) (up.setRegs { up.regs with eventFault := true }))).regs.eventFault
      = false := by decide +kernel
/-- R18, R19: the first TRAIN frame is sent and the training timer runs for 50 ms. -/
theorem test_loopStart_trains :
    (run .loopStart (holds .loopStart up)).loop.sending = some trainFrame ∧
    (run .loopStart (holds .loopStart up)).loop.trainingTimer = some 50000 := by decide +kernel
/-- R23: an empty window reaches OFF at once, and the command ends OK. -/
theorem test_loopStop_off : ended (run .loopStop (holds .loopStop running)) = some (.ok, none) := by decide +kernel
theorem test_census_off : ended (run .census (holds .census up)) = some (.loopNotRunning, some 0) := by decide +kernel
/-- R27, R46: a census claims two addresses, granted tags 0 and 1. -/
theorem test_census_claims :
    ((run .census (holds .census running)).tag 1).map (fun t => t.frame.addr) = some 2 := by decide +kernel
theorem test_nodeReset_sends :
    (run .nodeReset (holds (.nodeReset 1) running)).loop.sending.map Frame.kind = some .nodeReset := by decide +kernel
theorem test_nodeTableRead_counts :
    adminWait (run .nodeTableRead (holds (.nodeTableRead 4) running))
      = some (.bufferWrite { addr := 4, bytes := nodeTableBytes running.nodes.records } (some 2)) := by decide +kernel
theorem test_adminBufferWriteEnd_fault :
    ended (run (.adminBufferWriteEnd (.error 4)) (waitsFor (.bufferWrite { addr := 4, bytes := [] } none) up))
      = some (.bufferFault, none) := by decide +kernel
theorem test_loadList_full : ended (run .loadList (holds (.loadList 1 1 0) lawful)) = some (.noSpace, some 0) := by
  decide +kernel
theorem test_listLoadReadEnd_holds :
    ended (run (.listLoadReadEnd (.data readBytes)) loadingOne) = some (.ok, some 2047) := by decide +kernel
theorem test_unloadList_inUse :
    ended (run .unloadList (holds (.unloadList 0) (entryIn .armed .single none))) = some (.inUse, some 1) := by decide +kernel
theorem test_attentionAdd_second :
    ended (run .attentionAdd (holds (.attentionAdd 1 6 1 0xFF 9) (entryIn .armed .single none))) = some (.ok, some 2) := by
  decide +kernel
/-- R159: ARM changes the desired mask of node 1, which is marked mask-dirty. -/
theorem test_attentionArm_dirty :
    ((run .attentionArm (holds (.attentionArm 1 7) (entryIn .disarmed .single none))).node 0).dirty = true := by
  decide +kernel
theorem test_attentionDisarm_busy :
    ended (run .attentionDisarm (holds (.attentionDisarm 1 7) (entryIn .posting .single none)))
      = some (.badState, some 4) := by decide +kernel
theorem test_attentionDelete_releases :
    (run .attentionDelete (holds (.attentionDelete 1 7) (entryIn .armed .single (some 0)))).stored 0
      = .loaded [readStep] 2 false 0 := by decide +kernel
/-- R161: 32 bytes and 4 for each of 2 words, rounded up to 64. -/
theorem test_slotStart_size :
    ended (run .slotStart (holds (.slotStart 7 0 1 2 10 0 4 32) (running.setStored 0 loadedList))) = some (.ok, some 64) := by
  decide +kernel
theorem test_slotStop_missed : ended (run .slotStop (holds (.slotStop 7) (slotIn .active none))) = some (.ok, some 2) := by
  decide +kernel
theorem test_slotResume_active :
    ((run .slotResume (holds (.slotResume 7) (slotIn .suspended none))).slot 7).state = .active := by decide +kernel
theorem test_abortJob_counts :
    ((run .abortJob (holds (.abortJob 1 5) (jobWith id))).compRing 0).queue.length = 2 := by decide +kernel

/-! ### Behaviours: jobs -/

/-- R124, R127: the fetch of ring 7 reads the 64 bytes at its base and 64 times its consumer index. -/
theorem test_fetch_address :
    ((settleFetch (posted.setSubRing 7 { sq16 with producer := 0, consumer := 15 })).bind fun t =>
      t.rings.fetch.map FetchRead.addr) = some 0x103C0 := by decide +kernel

theorem test_fetchReadEnd_stored :
    ((run (.fetchReadEnd (.data (entry 2 1 0 0))) fetching).ctx 11).state = .issued := by decide +kernel
theorem test_fetchReadEnd_missing :
    ((run (.fetchReadEnd (.data (entry 2 1 0 63))) fetching).ctx 11).state = .completing := by decide +kernel
theorem test_inlineListReadEnd_issues :
    ((run (.inlineListReadEnd 11 (.data readBytes)) (admitting none)).ctx 11).state = .issued := by decide +kernel
/-- R61: the staged word goes out with the WRITE. -/
theorem test_stagingReadEnd_sends :
    (run (.stagingReadEnd 11 (.data [1, 2, 3, 4])) staging).loop.sending.map Frame.data = some [0x04030201] := by
  decide +kernel
theorem test_inBufferWriteEnd_completes :
    ((run (.inBufferWriteEnd 11 .ok) delivering).ctx 11).inCursor = 8 := by decide +kernel
/-- R120: the record of an older job waits for its read; the records behind it for the same ring keep their order. -/
theorem test_stagingReadEnd_handsOver :
    let t := enterCompleting 11 .aborted readingFirst
    (t.compRing 0).queue = [] ∧
    ((run (.stagingReadEnd 0 (.data [1, 2, 3, 4])) t).compRing 0).queue.map (fun p => match p with
      | .job c _ => c
      | .admin _ => 15) = [0, 11] := by decide +kernel
/-- R131: ABORT JOB's own record does not wait behind the record of a job whose read goes on. -/
theorem test_abortJob_reading :
    ((run .abortJob (holds (.abortJob 1 5) staging)).compRing 0).queue.map (fun p => match p with
      | .job _ _ => false
      | .admin _ => true) = [true] := by decide +kernel
theorem test_jobDeadlineExpiry_completes :
    ((run (.jobDeadlineExpiry 11) (jobWith fun x => { x with deadline := some 9 })).ctx 11).state = .completing := by
  decide +kernel
theorem test_awaitIntervalExpiry_tests :
    (run (.awaitIntervalExpiry 11) awaiting).loop.sending.map Frame.op = some (some .test) := by decide +kernel
theorem test_delayExpiry_completes :
    ((run (.delayExpiry 11) ((jobAt 11 { readStep with kind := .delay, count := 0, interval := 1 } running).modCtx 11
      fun x => { x with state := .paused, pause := some (.delay 10) })).ctx 11).stepsDone = 1 := by decide +kernel

/-! ### Behaviours: the wire -/

/-- R201: a QUERY of node 5 on tag 2, its bytes before the CRC written out from the frame format. -/
theorem test_frameBody_query :
    frameBody { kind := .query, tag := 2, retry := true, seq := true, addr := 5, data := [0] }
      = [5, 0x1A, 5, 0, 0, 0, 0, 1, 0, 0, 0, 0, 0, 0, 0, 0, 0, 0, 0, 0, 0, 0, 0, 0] := by decide +kernel
/-- The CRC-16 of the ASCII digits 1 to 9 under R201's polynomial and initial value, most significant bit first, is 29B1h. -/
theorem test_crc16 : crc16 [0x31, 0x32, 0x33, 0x34, 0x35, 0x36, 0x37, 0x38, 0x39] = 0x29B1 := by decide +kernel
theorem test_frameTransmitEnd_next :
    (run .frameTransmitEnd (sending [{ maskFrame with addr := 30 }])).loop.sending = some { maskFrame with addr := 30 } := by
  decide +kernel
/-- R38, R43: the applied mask is the one carried, and the pair's sequence bit toggles. -/
theorem test_frameReturn_mask :
    ((run (.frameReturn (frameBytes maskDoneFrame)) maskFlying).node 0).applied = 0xFE ∧
    ((run (.frameReturn (frameBytes maskDoneFrame)) maskFlying).node 0).seq = 1 := by decide +kernel
/-- R55: a corrupted return is sent again with the retry flag set. -/
theorem test_frameReturn_corrupt :
    (run (.frameReturn []) maskFlying).loop.sending = some { maskFrame with retry := true } := by decide +kernel
theorem test_returnTimeout_breaks :
    (run (.returnTimeout (.tag 0)) (maskFlying.setLoop { maskFlying.loop with lost := 1 })).loop.state = .broken := by
  decide +kernel
/-- R17, R23: in STOPPING a COMMAND waiting behind the transmitter is not sent and its job ends LOOP_DOWN; a COLLECT sent again
after a CORRUPT return is. -/
theorem test_frameTransmitEnd_stopping :
    let t := run .frameTransmitEnd (stoppingWith [commandFrame .read, collectFrame])
    t.loop.sending = some collectFrame ∧ t.tag 0 = none ∧ (t.ctx 11).stopCause = some .loopDown := by decide +kernel
theorem test_busyBackoffExpiry_grants : (run (.busyBackoffExpiry (.mask 0)) backoff).loop.sending.map Frame.kind = some .mask := by
  decide +kernel
/-- R63, assumption 16: a BUSY return in STOPPING ends the operation LOOP_DOWN, at the busy limit too. -/
theorem test_busyReturn_stopping :
    let s := jobAt 0 readStep { loopIn .stopping with params := { busyLimit := 1 } }
    let t := busyReturn 0 { operation := opJ, seq := false, frame := maskFrame } (s.modCtx 0 fun x => { x with state := .issued })
    (t.compRing 0).queue.map (fun p => match p with
      | .job _ r => r.stopCause
      | .admin _ => none) = [some .loopDown] := by decide +kernel
theorem test_signalLoss_stopping : run .signalLoss (loopIn .stopping) = loopIn .stopping := by decide +kernel
theorem test_trainingTimeout_breaks :
    (run .trainingTimeout (up.setLoop { state := .training, trainingTimer := some 50000 })).loop.retrainTimer
      = some 300000 := by decide +kernel
theorem test_retrainTimerExpiry_trains :
    (run .retrainTimerExpiry (up.setLoop { state := .broken, retrainTimer := some 250000 })).loop.state = .training := by
  decide +kernel
/-- R69, R74: the owner's step faults and the entry is CANCELLING. -/
theorem test_deferDeadlineExpiry_cancels :
    (run (.deferDeadlineExpiry 15) (deferring .running)).entry 15 = .cancelling 0 .read 2 := by decide +kernel
theorem test_periodExpiry_runs :
    ((run (.periodExpiry 7) (slotIn .active none)).slot 7).nextDue = 1500 := by decide +kernel
theorem test_periodExpiry_missed :
    ((run (.periodExpiry 7) (slotIn .suspended none)).slot 7).missed = 3 := by decide +kernel

/-! ### Behaviours: records written -/

/-- R125: the index wraps to 0 and the phase flips. -/
theorem test_eventRecordWritten_wraps :
    (run .eventRecordWritten (eventWriting (lossNotice false))).rings.event.producer = 0 ∧
    (run .eventRecordWritten (eventWriting (lossNotice false))).rings.event.phase = false := by decide +kernel
theorem test_eventWriteError_keeps :
    (run .eventWriteError (eventWriting (lossNotice true))).notices = [lossNotice false] := by decide +kernel
theorem test_completionRecordWritten_frees :
    ((run (.completionRecordWritten 0) (recordWriting 0 jobDone)).ctx 11).state = .free := by decide +kernel
theorem test_completionWriteError_fatal :
    (run (.completionWriteError 0 0x20000) (recordWriting 0 adminRecord)).regs.fatal = true := by decide +kernel
theorem test_moderationTimerExpiry_sends :
    (run (.moderationTimerExpiry .event) (moderated.setHost { maskedFlags := 0 })).host.messages = [0] := by decide +kernel
theorem test_snapshotWriteEnd_posts :
    ((run (.snapshotWriteEnd 7 .ok) (snapshotWriting .active)).slot 7).missed = 1 := by decide +kernel
theorem test_snapshotWriteEnd_fault :
    ((run (.snapshotWriteEnd 7 (.error 0)) (snapshotWriting .active)).slot 7).state = .suspended := by decide +kernel

end Sys2Proof.Tests
end

section
/-! SUPPORT. What the shared operations leave unchanged, and what a few of them come to in the words of the statements about
the field loop: the rules that the proofs below use instead of unfolding the operations again. -/

namespace Sys2Proof.Machine

/-- Two effects that leave one state have one outcome. -/
theorem next_react_congr {u v : State} (h : u = v) : (.next (react u) : Result) = .next (react v) := by
  rw [h]

/-! ### Blocks set twice -/

@[simp] theorem State.setLoop_setLoop (s : State) (x y : LoopController) : (s.setLoop x).setLoop y = s.setLoop y := rfl

@[simp] theorem State.setWindow_setWindow (s : State) (x y : Window) : (s.setWindow x).setWindow y = s.setWindow y := rfl

/-- A node record written back as it stands changes nothing. -/
@[simp] theorem State.setNode_node (s : State) (n : NodeId) : s.setNode n (s.node n) = s := by
  simp [State.setNode, State.node, State.setNodes]

/-- A tag after a tag has been set. -/
theorem State.setTag_tag (s : State) (t t' : Tag) (x : Option Transaction) :
    (s.setTag t x).tag t' = if t' = t then x else s.tag t' := by
  by_cases h : t' = t
  · simp [h]
  · simp [h, State.setTag_tag_ne _ _ _ _ (Ne.symm h)]

/-- A doubt flag after one has been set (R44). -/
theorem State.setDoubt_doubtful (s : State) (n m : NodeId) (t g : Tag) (b : Bool) :
    (s.setDoubt n t b).doubtful m g = if m = n ∧ g = t then b else s.doubtful m g := by
  show (vget (vset s.window.doubt n _) m).getLsbD g.val = _
  rw [vget_vset]
  by_cases h : n = m
  · subst h
    rw [if_pos rfl, setBit_getLsbD _ _ _ _ t.isLt]
    simp [State.doubtful, Fin.ext_iff]
  · simp [h, Ne.symm h, State.doubtful]

/-! ### The arrival of an instant -/

@[simp] theorem reachInstant_loop (due : Instant) (s : State) : (reachInstant due s).loop = s.loop := by
  obtain ⟨i, h⟩ := reachInstant_eq due s
  simp [h]

@[simp] theorem reachInstant_params (due : Instant) (s : State) : (reachInstant due s).params = s.params := by
  obtain ⟨i, h⟩ := reachInstant_eq due s
  simp [h]

@[simp] theorem reachInstant_window (due : Instant) (s : State) : (reachInstant due s).window = s.window := by
  obtain ⟨i, h⟩ := reachInstant_eq due s
  simp [h]

@[simp] theorem reachInstant_nodes (due : Instant) (s : State) : (reachInstant due s).nodes = s.nodes := by
  obtain ⟨i, h⟩ := reachInstant_eq due s
  simp [h]

/-! ### Commands that wait -/

@[simp] theorem waitAdmin_loop (e : AdminWait) (s : State) : (waitAdmin e s).loop = s.loop := by
  unfold waitAdmin
  split <;> rfl

@[simp] theorem waitAdmin_timebase (e : AdminWait) (s : State) : (waitAdmin e s).timebase = s.timebase :=
  congrArg Base.timebase (waitAdmin_base e s)

/-! ### Frames handed over -/

/-- The sender of a frame: the loop controller for its own two kinds, the tag's transaction for every other (R3). -/
theorem frameSender_eq (g : Frame) :
    frameSender g = if g.kind = .train ∨ g.kind = .rate then .loop else .tag g.tag := by
  unfold frameSender
  cases g.kind <;> rfl

/-- A frame handed over to a free transmitter is sent (R3). -/
theorem handFrame_sends {g : Frame} {s : State} (h : s.loop.sending = none) :
    handFrame g s = s.setLoop (beginTransmission g s.loop) := by
  simp [handFrame, h]

/-- A frame handed over behind another waits (R3). -/
theorem handFrame_waits {g : Frame} {s : State} (h : s.loop.sending ≠ none) :
    handFrame g s = s.setLoop { s.loop with waiting := s.loop.waiting ++ [g] } := by
  simp [handFrame, h]

/-! ### The window's tags -/

/-- The transactions that hold a tag, read tag by tag (R41). -/
theorem heldTransactions_eq (s : State) : heldTransactions s.window = (List.finRange 8).filterMap s.tag := by
  have tags : s.window.tags.toList = (List.finRange 8).map s.tag := by
    apply List.ext_getElem
    · simp
    · intro i h₁ h₂
      simp [State.tag, vget]
  rw [heldTransactions, tags, List.filterMap_map]
  rfl

/-- No transaction holds a tag exactly when every tag is FREE (R41). -/
theorem heldTransactions_nil_iff (s : State) : heldTransactions s.window = [] ↔ ∀ t, s.tag t = none := by
  simp [heldTransactions_eq, List.filterMap_eq_nil_iff]

end Sys2Proof.Machine
end

section
/-! PROOF. LOOP START and LOOP STOP in every loop state, and the entry to OFF. -/

namespace Sys2Proof.Machine

/-- LOOP START, dispatched, is carried out. -/
theorem exec_loopStart {s : State} (h : dispatched s = some .loopStart) :
    exec .loopStart s = .next (react (loopStart s)) := by
  simp [exec, execLoopStart, h, taken]

/-- LOOP STOP, dispatched, is carried out. -/
theorem exec_loopStop {s : State} (h : dispatched s = some .loopStop) :
    exec .loopStop s = .next (react (loopStop s)) := by
  simp [exec, execLoopStop, h, taken]

/-- A start request in the statements' words: rate code 1, the count 0, the training timer, and the first TRAIN frame (R18). -/
theorem startRequest_eq (s : State) :
    startRequest s = handFrame trainFrame (s.setLoop
      { s.loop with
        state := .training, rate := .r1, lost := 0, trainingTimer := some (s.timebase + 50000), retrainTimer := none,
        rateSwitched := false, agreed := none }) := rfl

/-- LOOP START out of FATAL, by the loop state it finds (R152). -/
theorem loopStart_off_or_broken {s : State} (hf : s.regs.fatal = false) (h : s.loop.state = .off ∨ s.loop.state = .broken) :
    loopStart s = startRequest (waitAdmin .loopStart s) := by
  rcases h with h | h <;> simp [loopStart, hf, h]

theorem loopStart_training_or_census {s : State} (hf : s.regs.fatal = false)
    (h : s.loop.state = .training ∨ s.loop.state = .census) : loopStart s = waitAdmin .loopStart s := by
  rcases h with h | h <;> simp [loopStart, hf, h]

theorem loopStart_running_or_stopping {s : State} (hf : s.regs.fatal = false)
    (h : s.loop.state = .running ∨ s.loop.state = .stopping) :
    loopStart s = endAdmin .badState (some s.loop.state.code) s := by
  rcases h with h | h <;> simp [loopStart, hf, h]

/-- LOOP STOP in a loop that is up or BROKEN makes a stop request (R153). -/
theorem loopStop_stops {s : State} (ho : s.loop.state ≠ .off) (hs : s.loop.state ≠ .stopping) :
    loopStop s = stopRequest (waitAdmin .loopStop s) := by
  unfold loopStop
  cases h : s.loop.state with
  | off => exact absurd h ho
  | stopping => exact absurd h hs
  | training | census | running | broken => rfl

/-- The entry to OFF in the statement's words: the table and the paused jobs, then the LOOP STOP that waits (R23, R79, R153). -/
theorem enterOff_eq (s : State) :
    enterOff s =
      (let down := jobsLoopDown (tableLoopDown (notify .loop (.loop .off .stopped s.loop.rate) (s.setLoop
        { s.loop with state := .off, sending := none, waiting := [], transit := [], lost := 0 })))
       if adminWait down = some .loopStop then endAdmin .ok none down else down) := rfl

/-- OFF is entered from STOPPING with every tag FREE (R23). -/
theorem settleOff_enters {s : State} (hs : s.loop.state = .stopping) (ht : ∀ t, s.tag t = none) :
    settleOff s = some (enterOff s) := by
  simp [settleOff, hs, (heldTransactions_nil_iff s).mpr ht]

/-- Nothing enters OFF from another state, or while a transaction holds a tag (R23). -/
theorem settleOff_none {s : State} (h : s.loop.state ≠ .stopping ∨ ∃ t, s.tag t ≠ none) : settleOff s = none := by
  have h' : ¬ (s.loop.state = .stopping ∧ heldTransactions s.window = []) := by
    rintro ⟨hs, ht⟩
    rcases h with h | ⟨t, h⟩
    · exact h hs
    · exact h ((heldTransactions_nil_iff s).mp ht t)
  simp [settleOff, h']

/-- Settles O23: the model's functions by the loop state, each in the words of the statement. -/
theorem loopStartAndStopByLoopState : Obligations.LoopStartAndStopByLoopState := by
  unfold Obligations.LoopStartAndStopByLoopState
  refine ⟨⟨fun s hd => ?_, fun s hd => ?_⟩, fun s => ?_⟩
  · rw [exec_loopStart hd]
    refine ⟨fun hf => by simp [loopStart, hf], fun hf => ⟨fun h => ?_, fun h => ?_, fun h => ?_⟩⟩
    · rw [loopStart_off_or_broken hf h, startRequest_eq, waitAdmin_loop, waitAdmin_timebase]
    · rw [loopStart_training_or_census hf h]
    · rw [loopStart_running_or_stopping hf h]
  · rw [exec_loopStop hd]
    refine ⟨fun h => by simp [loopStop, h], fun h => by simp [loopStop, h], fun ho hs => ?_⟩
    rw [loopStop_stops ho hs, stopRequest, waitAdmin_loop]
  · refine ⟨settleOff_none, fun hs ht => ?_⟩
    rw [settleOff_enters hs ht, enterOff_eq]
    exact ⟨fun hw => by rw [if_pos hw], fun hw => by rw [if_neg hw]⟩

end Sys2Proof.Machine
end

section
/-! PROOF. A frame handed over, a transmission's end, and the frames that wait behind it. -/

namespace Sys2Proof.Machine

/-- The record of a frame in the statement's words (R3). -/
theorem transitRecord_eq (g : Frame) :
    transitRecord g =
      { sender := if g.kind = .train ∨ g.kind = .rate then .loop else .tag g.tag, tag := g.tag, kind := g.kind, addr := g.addr,
        retry := g.retry, seq := g.seq, ended := none } := by
  rw [transitRecord, frameSender_eq]

/-- A TRAIN or RATE frame that may not be sent is dropped. -/
theorem notSent_own {g : Frame} (s : State) (h : g.kind = .train ∨ g.kind = .rate) : notSent g s = s := by
  rw [notSent, frameSender_eq, if_pos h]

/-- A transaction's frame that may not be sent ends its transaction, a resend with the pair doubtful (R17, R44). -/
theorem notSent_transaction {g : Frame} {s : State} {tr : Transaction} (ht : g.kind ≠ .train) (hr : g.kind ≠ .rate)
    (h : s.tag g.tag = some tr) :
    notSent g s = endTransaction g.tag tr (if tr.withdrawn then .notPerformed else .loopDown)
      (if g.retry then s.setDoubt tr.operation.node g.tag true else s) := by
  rw [notSent, frameSender_eq, if_neg (by simp [ht, hr])]
  simp only [h]
  cases g.retry <;> rfl

/-- With no frame waiting, none is sent. -/
theorem sendNext_none {s : State} (h : s.loop.waiting = []) : sendNext [] s = s := by
  have kept : { s.loop with waiting := [] } = s.loop := by rw [← h]
  rw [sendNext, kept]
  rfl

/-- A transmission's end while a frame is being sent (R3). -/
theorem exec_frameTransmitEnd {s : State} (h : s.loop.sending ≠ none) :
    exec .frameTransmitEnd s = .next (react (sendNext s.loop.waiting (s.setLoop
      { s.loop with transit := stampTransit s.timebase s.loop.transit, sending := none }))) := by
  have h' : s.loop.sending.isSome := Option.isSome_iff_ne_none.mpr h
  simp [exec, execFrameTransmitEnd, h', taken, transmitEnds]

/-- Settles O40: whether the first frame that waits may be sent decides between `sendNext_permitted` and
`sendNext_notPermitted`; behind a frame dropped, the same question is asked of the next. -/
theorem frameTransmitEndSendsNext : Obligations.FrameTransmitEndSendsNext := by
  unfold Obligations.FrameTransmitEndSendsNext
  intro record
  have record_eq : ∀ g, record g = transitRecord g := fun g => (transitRecord_eq g).symm
  refine ⟨rfl, fun g s => ⟨fun h => ?_, handFrame_waits⟩, fun s hs => ?_⟩
  · rw [handFrame_sends h, record_eq]
    rfl
  intro stamped v
  have sends : exec .frameTransmitEnd s = .next (react (sendNext s.loop.waiting v)) := exec_frameTransmitEnd hs
  refine ⟨fun hw => by rw [sends, hw, sendNext_none (s := v) hw], fun g rest hw => ⟨fun hp => ?_, fun hp => ?_⟩⟩
  · rw [sends, hw, sendNext_permitted ((mayTransmit_iff v g).mpr hp), record_eq]
    rfl
  intro goesOn
  have dropped : mayTransmit v g = false := by
    rw [← Bool.not_eq_true, mayTransmit_iff]
    exact hp
  have goes : ∀ w, notSent g v = w → goesOn w := by
    intro w h
    have next : exec .frameTransmitEnd s = .next (react (sendNext rest w)) := by
      rw [sends, hw, sendNext_notPermitted dropped, h]
    refine ⟨fun hr => by rw [next, hr]; rfl, fun g' rest' hr hp' => ?_⟩
    rw [next, hr, sendNext_permitted ((mayTransmit_iff w g').mpr hp'), record_eq]
    rfl
  exact ⟨fun h => goes v (notSent_own v h), fun tr ht hr htr => goes _ (notSent_transaction ht hr htr)⟩

end Sys2Proof.Machine
end

section
/-! PROOF. The signal vectors of a good return. -/

namespace Sys2Proof.Machine

/-- Claims that join the tail of the class S queue. -/
def State.addClaims (s : State) (l : List Operation) : State :=
  s.setWindow { s.window with claimsS := s.window.claimsS ++ l }

/-- A class S claim joins the tail of its queue (R46). -/
theorem pushClaim_classS {op : Operation} (s : State) (h : classOf op.owner = .S) : pushClaim op s = s.addClaims [op] := by
  simp [pushClaim, h, State.addClaims]

@[simp] theorem addClaims_nil (s : State) : s.addClaims [] = s := by simp [State.addClaims, State.setWindow]

@[simp] theorem addClaims_addClaims (s : State) (l l' : List Operation) :
    (s.addClaims l).addClaims l' = s.addClaims (l ++ l') := by
  simp [State.addClaims]

/-- An operation exists where a claim queue, the backoff list or a tag holds it (R42). -/
theorem operationExists_iff (s : State) (p : Operation → Bool) :
    operationExists s p = true ↔
      (∃ o ∈ s.window.claimsS, p o = true) ∨ (∃ o ∈ s.window.claimsI, p o = true) ∨
      (∃ o ∈ s.window.claimsJ, p o = true) ∨ (∃ o ∈ s.window.backoff, p o.1 = true) ∨
      ∃ t tr, s.tag t = some tr ∧ p tr.operation = true := by
  have tags : (s.window.tags.toList.any fun t => match t with
      | some tr => p tr.operation
      | none => false) = true ↔ ∃ t tr, s.tag t = some tr ∧ p tr.operation = true := by
    rw [List.any_eq_true]
    constructor
    · rintro ⟨x, hx, hp⟩
      obtain ⟨i, hi, rfl⟩ := List.getElem_of_mem hx
      have hi' : i < 8 := by simpa using hi
      cases htr : s.tag ⟨i, hi'⟩ with
      | none => simp_all [State.tag, vget]
      | some tr => exact ⟨⟨i, hi'⟩, tr, htr, by simp_all [State.tag, vget]⟩
    · rintro ⟨t, tr, htr, hp⟩
      exact ⟨some tr, by rw [← htr]; simp [State.tag, vget], hp⟩
  unfold operationExists
  rw [Bool.or_eq_true]
  refine (or_congr_right tags).trans ?_
  simp only [Bool.or_eq_true, List.any_eq_true, or_assoc]

/-- After claims have joined, an operation exists that existed or is one of them. -/
theorem operationExists_addClaims (s : State) (l : List Operation) (p : Operation → Bool) :
    operationExists (s.addClaims l) p = (operationExists s p || l.any p) := by
  simp only [operationExists, State.addClaims, State.setWindow_window, List.any_append]
  cases l.any p <;> simp

/-- The claims that a node's two bits bring (R46, R70, R168). -/
def serviceClaims (f : Frame) (s : State) (n : NodeId) : List Operation :=
  (if wantsQuery s f n then [{ owner := .query n, node := n }] else []) ++
  (if wantsCollect s f n then [{ owner := .collect n, node := n }] else [])

/-- Claims of other owners than a node's QUERY and COLLECT. -/
def OfOthers (n : NodeId) (l : List Operation) : Prop := ∀ o ∈ l, o.owner ≠ .query n ∧ o.owner ≠ .collect n

theorem wantsQuery_addClaims {l : List Operation} {n : NodeId} (f : Frame) (s : State)
    (h : ∀ o ∈ l, o.owner ≠ .query n) : wantsQuery (s.addClaims l) f n = wantsQuery s f n := by
  have none : l.any (fun o => decide (o.owner = .query n)) = false := by simpa using h
  rw [wantsQuery, operationExists_addClaims, none, Bool.or_false]
  rfl

theorem wantsCollect_addClaims {l : List Operation} {n : NodeId} (f : Frame) (s : State)
    (h : ∀ o ∈ l, o.owner ≠ .collect n) : wantsCollect (s.addClaims l) f n = wantsCollect s f n := by
  have none : l.any (fun o => decide (o.owner = .collect n)) = false := by simpa using h
  rw [wantsCollect, operationExists_addClaims, none, Bool.or_false]
  rfl

/-- Claims of other nodes leave a node's own wants as they are. -/
theorem serviceClaims_addClaims {l : List Operation} {n : NodeId} (f : Frame) (s : State) (h : OfOthers n l) :
    serviceClaims f (s.addClaims l) n = serviceClaims f s n := by
  rw [serviceClaims, wantsQuery_addClaims f s fun o ho => (h o ho).1, wantsCollect_addClaims f s fun o ho => (h o ho).2]
  rfl

/-- A node's claims are not another node's. -/
theorem serviceClaims_ofOthers (f : Frame) (s : State) {n m : NodeId} (h : n ≠ m) : OfOthers m (serviceClaims f s n) := by
  intro o ho
  rw [serviceClaims, List.mem_append] at ho
  rcases ho with ho | ho <;> split at ho <;> simp_all

/-- The examination of one node adds its claims: its QUERY's claim does not keep its COLLECT from being claimed. -/
theorem examineNode_eq (f : Frame) (s : State) (n : NodeId) : examineNode f s n = s.addClaims (serviceClaims f s n) := by
  have collects : wantsCollect (pushClaim { owner := .query n, node := n } s) f n = wantsCollect s f n := by
    rw [pushClaim_classS _ rfl]
    exact wantsCollect_addClaims f s (by simp)
  have query (v : State) : pushClaim { owner := .query n, node := n } v = v.addClaims [{ owner := .query n, node := n }] :=
    pushClaim_classS v rfl
  have collect (v : State) :
      pushClaim { owner := .collect n, node := n } v = v.addClaims [{ owner := .collect n, node := n }] :=
    pushClaim_classS v rfl
  rw [query] at collects
  unfold examineNode serviceClaims
  cases wantsQuery s f n <;> cases hc : wantsCollect s f n <;> simp [query, collect, collects, hc]

/-- The examination of distinct nodes, behind claims that are none of theirs, adds the claims of each in turn. -/
theorem foldl_examineNode (f : Frame) (s : State) (l : List NodeId) (hl : l.Nodup) (acc : List Operation)
    (h : ∀ n ∈ l, OfOthers n acc) :
    l.foldl (examineNode f) (s.addClaims acc) = s.addClaims (acc ++ l.flatMap (serviceClaims f s)) := by
  induction l generalizing acc with
  | nil => simp
  | cons n l ih =>
    obtain ⟨hn, hl⟩ := List.nodup_cons.mp hl
    have others : ∀ m ∈ l, OfOthers m (acc ++ serviceClaims f s n) := by
      intro m hm o ho
      rcases List.mem_append.mp ho with ho | ho
      · exact h m (List.mem_cons_of_mem _ hm) o ho
      · exact serviceClaims_ofOthers f s (by rintro rfl; exact hn hm) o ho
    rw [List.foldl_cons, examineNode_eq, serviceClaims_addClaims f s (h n List.mem_cons_self), addClaims_addClaims,
      ih hl _ others, List.flatMap_cons, List.append_assoc]

/-- The signal vectors claim for each of the 30 nodes in turn (R12, R46). -/
theorem examineVectors_eq (f : Frame) (s : State) :
    examineVectors f s = s.addClaims ((List.finRange 30).flatMap (serviceClaims f s)) := by
  have h := foldl_examineNode f s (List.finRange 30) (List.nodup_finRange 30) [] (fun _ _ _ ho => absurd ho List.not_mem_nil)
  rwa [addClaims_nil, List.nil_append] at h

/-- Settles O46: the fold over the nodes is the list of their claims, since no node's claims touch another's. -/
theorem signalVectorsClaimService : Obligations.SignalVectorsClaimService := by
  unfold Obligations.SignalVectorsClaimService
  refine ⟨fun p s => operationExists_iff s p, fun f s => ?_⟩
  intro asks
  have query : ∀ n, wantsQuery s f n = (asks f.attention (.query n) n && !s.queryRefused.getLsbD n.val) := by
    intro n
    simp only [wantsQuery, vectorBit, nodeAddr, asks, Bool.and_assoc]
    rw [Bool.and_comm (!s.queryRefused.getLsbD n.val)]
  have collect : ∀ n, wantsCollect s f n = asks f.collect (.collect n) n := fun _ => rfl
  rw [examineVectors_eq]
  show s.addClaims _ = s.addClaims _
  congr 2
  funext n
  rw [serviceClaims, query, collect]

end Sys2Proof.Machine
end

section
/-! PROOF. Signal loss and the two timers of the loop controller. -/

namespace Sys2Proof.Machine

/-- The entry to BROKEN in the statements' words (R21). -/
theorem enterBroken_eq (reason : LoopReason) (s : State) :
    enterBroken reason s = notify .loop (.loop .broken reason s.loop.rate) (s.setLoop
      { s.loop with
        state := .broken, transit := [], lost := 0, trainingTimer := none, sending := none, waiting := [], agreed := none,
        retrainTimer := if s.params.retrain = 0 then none else some (s.timebase + 1000 * s.params.retrain) }) := rfl

/-- Signal loss breaks the loop from CENSUS and RUNNING (R15). -/
theorem exec_signalLoss_breaks {s : State} (h : s.loop.state = .census ∨ s.loop.state = .running) :
    exec .signalLoss s = .next (react (loopBreak .signalLost s)) := by
  rcases h with h | h <;> simp [exec, execSignalLoss, h, taken]

/-- Signal loss is ignored in every other state (R15). -/
theorem exec_signalLoss_ignored {s : State} (hc : s.loop.state ≠ .census) (hr : s.loop.state ≠ .running) :
    exec .signalLoss s = .next s := by
  show execSignalLoss s = _
  unfold execSignalLoss
  cases h : s.loop.state with
  | census => exact absurd h hc
  | running => exact absurd h hr
  | off | training | broken | stopping => rfl

/-- The training timer's expiry in TRAINING (R19). -/
theorem exec_trainingTimeout {s : State} {due : Instant} (h : s.loop.state = .training)
    (ht : s.loop.trainingTimer = some due) :
    exec .trainingTimeout s = .next (react (trainingFails (reachInstant due s))) := by
  simp [exec, execTrainingTimeout, h, ht, taken]

/-- The retrain timer's expiry in BROKEN (R22). -/
theorem exec_retrainTimerExpiry {s : State} {due : Instant} (h : s.loop.state = .broken)
    (ht : s.loop.retrainTimer = some due) :
    exec .retrainTimerExpiry s = .next (react (startRequest (reachInstant due s))) := by
  simp [exec, execRetrainTimerExpiry, h, ht, taken]

/-- Settles O49: by the loop state each event finds, with the break and the start request in the statement's words. -/
theorem signalLossAndTrainingTimersMoveLoop : Obligations.SignalLossAndTrainingTimersMoveLoop := by
  unfold Obligations.SignalLossAndTrainingTimersMoveLoop
  refine ⟨⟨fun s => ⟨fun h => ?_, exec_signalLoss_ignored⟩, fun due s => ⟨fun h ht => ?_, fun h ht => ?_⟩⟩,
    fun reason s => ⟨fun h => if_pos h, fun h => if_neg h⟩⟩
  · rw [exec_signalLoss_breaks h, loopBreak, enterBroken_eq]
  · rw [exec_trainingTimeout h ht, trainingFails, enterBroken_eq, reachInstant_loop, reachInstant_params]
  · rw [exec_retrainTimerExpiry h ht, startRequest_eq, reachInstant_loop]

end Sys2Proof.Machine
end

section
/-! SUPPORT. How an operation that no good return ends comes to its owner, owner by owner. -/

namespace Sys2Proof.Machine

/-! ### A context -/

/-- The job states in which an outcome reaches a context: every state but FREE, ADMITTING and COMPLETING. -/
theorem hasOperation_iff (st : JobState) :
    st.hasOperation = true ↔ st ≠ .free ∧ st ≠ .admitting ∧ st ≠ .completing := by
  cases st <;> simp [JobState.hasOperation]

/-- An outcome does not reach a context whose job is past its step. -/
theorem deliver_unreached {c : CtxId} {s : State} (o : Outcome) (h : (s.ctx c).state.hasOperation = false) :
    deliver c o s = s := by
  simp [deliver, h]

/-- A fault that reaches a context ends its step (R112). -/
theorem deliver_fault {c : CtxId} {s : State} (cause : Cause) (h : (s.ctx c).state.hasOperation = true) :
    deliver c (.fault cause) s = endStep c (.fault cause) (outcomeTaken c s) := by
  rw [deliver, if_pos h]
  rfl

/-- An operation not performed ends its context's job with the pending outcome (R118). -/
theorem deliver_notPerformed {c : CtxId} {s : State} (h : (s.ctx c).state.hasOperation = true) :
    deliver c .notPerformed s =
      endPending c (s.setCtx c { s.ctx c with deferredOp := none, pause := none, staging := [] }) := by
  rw [deliver, if_pos h]
  simp [State.modCtx]

theorem outcomeOfPending_some (p : Pending) : outcomeOfPending (some p) = pendingOutcome p := by
  cases p <;> rfl

/-- A job with a pending outcome ends with it, at the step it has reached unless a stop step is recorded (R117, R118). -/
theorem endPending_eq {c : CtxId} {s : State} {p : Pending} (h : (s.ctx c).pending = some p) :
    endPending c s = enterCompleting c (pendingOutcome p)
      (s.setCtx c { s.ctx c with stopStep := some ((s.ctx c).stopStep.getD (s.ctx c).index) }) := by
  have stop : ((s.ctx c).stopStep <|> some (s.ctx c).index) = some ((s.ctx c).stopStep.getD (s.ctx c).index) := by
    cases (s.ctx c).stopStep <;> rfl
  simp only [endPending, State.modCtx_ctx_self, h, outcomeOfPending_some]
  rw [State.modCtx, stop, ← h]

theorem ownerEnds_context {op : Operation} {c : CtxId} (h : op.owner = .context c) (mask : Byte) (w : Bool) (e : Ending)
    (s : State) : ownerEnds op mask w e s = contextEnds c op.node e s := by
  simp [ownerEnds, h]

/-- No ending reaches a context whose job is past its step. -/
theorem contextEnds_unreached {c : CtxId} {s : State} (n : NodeId) (e : Ending)
    (h : (s.ctx c).state.hasOperation = false) : contextEnds c n e s = s := by
  cases e with
  | good f => by_cases hf : f.status = .done <;> simp [contextEnds, hf, deliver_unreached _ h]
  | busyLimit | corruptLimit | nodeState | loopDown | notPerformed => simp [contextEnds, deliver_unreached _ h]

/-! ### The loop service: QUERY, MASK, COLLECT -/

theorem queryEnds_ungood {e : Ending} (h : ∀ f, e ≠ .good f) (n : NodeId) (s : State) : queryEnds n e s = s := by
  cases e with
  | good f => exact absurd rfl (h f)
  | busyLimit | corruptLimit | nodeState | loopDown | notPerformed => rfl

theorem maskEnds_ungood {e : Ending} (h : ∀ f, e ≠ .good f) (n : NodeId) (mask : Byte) (s : State) :
    maskEnds n mask e s = s := by
  cases e with
  | good f => exact absurd rfl (h f)
  | busyLimit | corruptLimit | nodeState | loopDown | notPerformed => rfl

theorem collectEnds_ungood {e : Ending} (h : ∀ f, e ≠ .good f) (n : NodeId) (s : State) : collectEnds n e s = s := by
  cases e with
  | good f => exact absurd rfl (h f)
  | busyLimit | corruptLimit | nodeState | loopDown | notPerformed => rfl

/-- A QUERY, a MASK and a COLLECT that no good return ends change nothing (R38, R73, R169). -/
theorem ownerEnds_service_ungood {op : Operation} {n : NodeId}
    (ho : op.owner = .query n ∨ op.owner = .mask n ∨ op.owner = .collect n) {e : Ending} (h : ∀ f, e ≠ .good f)
    (mask : Byte) (w : Bool) (s : State) : ownerEnds op mask w e s = s := by
  rcases ho with ho | ho | ho
  · simp only [ownerEnds, ho, queryEnds_ungood h]
  · simp only [ownerEnds, ho, maskEnds_ungood h]
  · simp only [ownerEnds, ho, collectEnds_ungood h]

/-! ### A CENSUS -/

theorem ownerEnds_census {op : Operation} {n : NodeId} (h : op.owner = .census n) (mask : Byte) (w : Bool) (e : Ending)
    (s : State) : ownerEnds op mask w e s = censusEnds n e s := by
  simp [ownerEnds, h]

/-- A CENSUS whose census was abandoned changes nothing (R32). -/
theorem censusEnds_abandoned {s : State} (h : s.nodes.census = none) (n : NodeId) (e : Ending) : censusEnds n e s = s := by
  simp [censusEnds, h]

/-- A CENSUS that goes down with the loop, or by its node's state, changes nothing (R29, R63). -/
theorem censusEnds_down {e : Ending} (h : e = .loopDown ∨ e = .notPerformed ∨ e = .nodeState) (n : NodeId) (s : State) :
    censusEnds n e s = s := by
  rcases h with rfl | rfl | rfl <;> exact ite_self s

/-- A CENSUS that failed is a census transaction's end (R29). -/
theorem censusEnds_failed {s : State} (h : s.nodes.census ≠ none) {e : Ending} (he : e = .corruptLimit ∨ e = .busyLimit)
    (n : NodeId) : censusEnds n e s = censusStep (censusFailed n s) := by
  rcases he with rfl | rfl <;> simp [censusEnds, h]

/-- A failed CENSUS of a PRESENT node makes it SILENT, with its notice and the news of its leaving (R26, R29). -/
theorem censusFailed_present {s : State} {n : NodeId} (h : (s.node n).state = .present) :
    censusFailed n s = nodeLeft n (notify (.node n) (.node .silent .census 0)
      (s.setNode n { s.node n with state := .silent })) := by
  simp [censusFailed, h, censusNews, notifyNode]

/-- A failed CENSUS of a node that is not PRESENT leaves its record (R29). -/
theorem censusFailed_notPresent {s : State} {n : NodeId} (h : (s.node n).state ≠ .present) : censusFailed n s = s := by
  unfold censusFailed
  cases hs : (s.node n).state with
  | present => exact absurd hs h
  | absent | incompatible => simp [hs]
  | silent =>
    have same : s.setNode n { s.node n with state := .silent } = s := by rw [← hs, State.setNode_node]
    simp [same, censusNews, hs]

/-! ### A NODE RESET -/

theorem ownerEnds_nodeReset {op : Operation} {n : NodeId} (h : op.owner = .nodeReset n) (mask : Byte) (w : Bool)
    (e : Ending) (s : State) : ownerEnds op mask w e s = resetEnds n e s := by
  simp [ownerEnds, h]

theorem nodeResetEnds_waiting {s : State} (h : adminWait s = some .nodeReset) (o : AdminOutcome) :
    nodeResetEnds o s = endAdmin o none s := if_pos h

/-- A NODE RESET with no command waiting for it changes nothing unless a good return ends it. -/
theorem resetEnds_notWaiting {s : State} (h : adminWait s ≠ some .nodeReset) {e : Ending} (he : ∀ f, e ≠ .good f)
    (n : NodeId) : resetEnds n e s = s := by
  cases e with
  | good f => exact absurd rfl (he f)
  | busyLimit | corruptLimit | nodeState | loopDown | notPerformed => exact if_neg h

/-! ### A CANCEL -/

theorem ownerEnds_cancel {op : Operation} {d : DeferId} (h : op.owner = .cancel d) (mask : Byte) (w : Bool) (e : Ending)
    (s : State) : ownerEnds op mask w e s = cancelOpEnds d op.node w e s := by
  simp [ownerEnds, h]

/-- A withdrawn CANCEL that no good return ends changes nothing (R72). -/
theorem cancelOpEnds_withdrawn {e : Ending} (h : ∀ f, e ≠ .good f) (d : DeferId) (n : NodeId) (s : State) :
    cancelOpEnds d n true e s = s := by
  cases e with
  | good f => exact absurd rfl (h f)
  | busyLimit | corruptLimit | nodeState | loopDown | notPerformed => rfl

/-- A CANCEL that failed frees its entry, the id held over (R76). -/
theorem cancelOpEnds_failed {e : Ending} (h : e = .corruptLimit ∨ e = .busyLimit ∨ e = .nodeState) (d : DeferId)
    (n : NodeId) (s : State) : cancelOpEnds d n false e s = cancelEnds d s true true := by
  rcases h with rfl | rfl | rfl <;> rfl

/-- A CANCEL's ending leaves an entry that is not CANCELLING (R76). -/
theorem cancelEnds_other {d : DeferId} {s : State} (h : ∀ n kind count, s.entry d ≠ .cancelling n kind count)
    (freed held : Bool) : cancelEnds d s freed held = s := by
  unfold cancelEnds
  cases he : s.entry d with
  | cancelling n kind count => exact absurd he (h n kind count)
  | free | reserved _ _ _ _ _ | waiting _ _ _ _ _ | orphaned _ _ _ => rfl

/-- A CANCEL that no good return ends has no effect once its entry is no longer CANCELLING (R76). -/
theorem cancelOpEnds_other {d : DeferId} {s : State} (h : ∀ n kind count, s.entry d ≠ .cancelling n kind count)
    {e : Ending} (he : ∀ f, e ≠ .good f) (m : NodeId) (w : Bool) : cancelOpEnds d m w e s = s := by
  cases w with
  | true => exact cancelOpEnds_withdrawn he d m s
  | false =>
    cases e with
    | good f => exact absurd rfl (he f)
    | notPerformed => rfl
    | busyLimit | corruptLimit | nodeState | loopDown => exact cancelEnds_other h _ _

/-- A CANCELLING entry orphaned (R76). -/
theorem cancelEnds_orphans {d : DeferId} {s : State} {n : NodeId} {kind : CommandOp} {count : Nat}
    (h : s.entry d = .cancelling n kind count) (held : Bool) :
    cancelEnds d s false held = s.setEntry d (.orphaned n kind count) := by
  simp [cancelEnds, h]

/-- A CANCELLING entry freed, its id held over: the node keeps one operation less, and one id more is barred (R39, R76). -/
theorem cancelEnds_frees {d : DeferId} {s : State} {n : NodeId} {kind : CommandOp} {count : Nat}
    (h : s.entry d = .cancelling n kind count) :
    cancelEnds d s true true =
      (((s.setEntry d .free).setNode n { s.node n with outstanding := (s.node n).outstanding - 1 })).setHeldOver n
        (setBit (s.heldOver n) d.val true) := by
  simp only [cancelEnds, h, freeEntry, DeferEntry.keptAt]
  rfl

end Sys2Proof.Machine
end

section
/-! PROOF. A sending LOST, by loop state, and what an ending does to each owner. -/

namespace Sys2Proof.Machine

/-- The return timeout of a frame whose transmission has ended brings the timebase to its instant and is LOST (R14). -/
theorem exec_returnTimeout {sender : FrameSender} {s : State} {r : TransitRecord} {i : Instant}
    (h : s.loop.transit.find? (fun r => r.sender = sender && r.ended.isSome) = some r) (hi : r.ended = some i) :
    exec (.returnTimeout sender) s =
      .next (react (frameLost r (reachInstant (i + s.params.returnTimeout) s))) := by
  simp [exec, execReturnTimeout, h, hi, taken]

/-- A LOST transaction frame goes to its transaction, its record off the transit list (R3, R15). -/
theorem frameLost_tag {r : TransitRecord} {t : Tag} (h : r.sender = .tag t) (s : State) :
    frameLost r s = classifyLost t (s.setLoop { s.loop with transit := s.loop.transit.erase r }) := by
  simp [frameLost, h, dropTransit]

/-- A LOST TRAIN or RATE frame is classified by the loop controller (R19, R20). -/
theorem frameLost_loop {r : TransitRecord} (h : r.sender = .loop) (s : State) :
    frameLost r s = ownFrameClassified (s.setLoop { s.loop with transit := s.loop.transit.erase r }) := by
  simp [frameLost, h, dropTransit]

/-- In TRAINING the next TRAIN frame follows (R19). -/
theorem ownFrameClassified_training {s : State} (h : s.loop.state = .training) :
    ownFrameClassified s = handFrame trainFrame s := by
  simp [ownFrameClassified, h]

/-- In CENSUS the RATE frame's class brings TRAINING at the agreed rate (R20). -/
theorem ownFrameClassified_census {s : State} {rate : RateCode} (h : s.loop.state = .census)
    (ha : s.loop.agreed = some rate) :
    ownFrameClassified s = handFrame trainFrame (s.setLoop
      { s.loop with
        state := .training, rate, lost := 0, trainingTimer := some (s.timebase + 50000), rateSwitched := true
        agreed := none }) := by
  simp only [ownFrameClassified, h, switchRate, ha]
  rfl

/-- The first sending LOST in CENSUS or RUNNING raises the count (R15). -/
theorem classifyLost_first {t : Tag} {tr : Transaction} {s : State} (ht : s.tag t = some tr)
    (hs : s.loop.state = .census ∨ s.loop.state = .running) (hl : s.loop.lost = 0) :
    classifyLost t s = lostReturn t tr (s.setLoop { s.loop with lost := 1 }) := by
  simp [classifyLost, ht, hs, hl]

/-- The second in a row breaks the loop (R15, R21). -/
theorem classifyLost_second {t : Tag} {tr : Transaction} {s : State} (ht : s.tag t = some tr)
    (hs : s.loop.state = .census ∨ s.loop.state = .running) (hl : 1 ≤ s.loop.lost) :
    classifyLost t s = loopBreak .returnsLost s := by
  have second : ¬ s.loop.lost + 1 < 2 := by omega
  simp only [classifyLost, ht]
  rw [if_pos hs, if_neg second]

/-- In STOPPING the count does not rise (R23). -/
theorem classifyLost_stopping {t : Tag} {tr : Transaction} {s : State} (ht : s.tag t = some tr)
    (hs : s.loop.state = .stopping) : classifyLost t s = lostReturn t tr s := by
  simp [classifyLost, ht, hs]

theorem lostReturn_withdrawn {tr : Transaction} (h : tr.withdrawn = true) (t : Tag) (s : State) :
    lostReturn t tr s = endDoubtful t tr .notPerformed s := by
  simp [lostReturn, h]

theorem lostReturn_stopping {tr : Transaction} {s : State} (h : tr.withdrawn = false) (hs : s.loop.state = .stopping)
    (t : Tag) : lostReturn t tr s = endDoubtful t tr .loopDown s := by
  simp [lostReturn, h, hs]

theorem lostReturn_forbidden {tr : Transaction} {s : State} (h : tr.withdrawn = false) (hs : s.loop.state ≠ .stopping)
    (ha : stateAllows (sentKind tr) (s.node tr.operation.node).state = false) (t : Tag) :
    lostReturn t tr s = endDoubtful t tr .nodeState s := by
  simp [lostReturn, h, hs, ha]

/-- Otherwise the frame is sent again on its tag, with the retry flag set except on a doubtful pair (R45, R56). -/
theorem lostReturn_resends {tr : Transaction} {s : State} (h : tr.withdrawn = false) (hs : s.loop.state ≠ .stopping)
    (ha : stateAllows (sentKind tr) (s.node tr.operation.node).state = true) (t : Tag) :
    lostReturn t tr s =
      (let retry := !s.doubtful tr.operation.node t
       handFrame { tr.frame with retry } (s.setTag t
         (some { tr with retry, afterLost := true, frame := { tr.frame with retry } }))) := by
  simp [lostReturn, h, hs, ha, resend]

/-- Settles O47: the timeout by the loop state and the lost count, then the endings owner by owner. -/
theorem lostSendingByLoopState : Obligations.LostSendingByLoopState := by
  unfold Obligations.LostSendingByLoopState
  refine ⟨⟨fun t tr r i s hf hr hi ht => ?_, fun r i s hf hr hi => ?_⟩, fun t tr e s => ?_, fun op mask w s => ?_⟩
  · intro v n left
    have tag_left (k : Nat) : (left k).tag t = some tr := by simpa [left, v, State.tag] using ht
    have node_left (k : Nat) : (left k).node n = s.node n := by simp [left, v, State.node]
    have exec_eq : exec (.returnTimeout (.tag t)) s = .next (react (classifyLost t (left s.loop.lost))) := by
      rw [exec_returnTimeout hf hi, frameLost_tag hr, reachInstant_loop]
    rw [exec_eq]
    refine ⟨fun hs => ⟨fun hl => ?_, fun hl => by rw [classifyLost_second (tag_left _) hs hl]⟩, fun hs => ?_⟩
    · have up : (left 1).loop.state ≠ .stopping := by rcases hs with hs | hs <;> simp [left, hs]
      rw [classifyLost_first (tag_left _) hs hl]
      refine ⟨fun hw => ?_, fun hw ha => ?_, fun hw ha => ?_⟩
      · exact next_react_congr (lostReturn_withdrawn hw t _)
      · rw [← node_left 1] at ha
        exact next_react_congr (lostReturn_forbidden hw up ha t)
      · rw [← node_left 1] at ha
        have same_doubt : (left 1).doubtful n t = s.doubtful n t := by simp [left, v, State.doubtful]
        rw [← same_doubt]
        exact next_react_congr (lostReturn_resends hw up ha t)
    · rw [classifyLost_stopping (tag_left _) hs]
      exact ⟨fun hw => next_react_congr (lostReturn_withdrawn hw t _),
        fun hw => next_react_congr (lostReturn_stopping (s := left s.loop.lost) hw hs t)⟩
  · intro v left
    have exec_eq : exec (.returnTimeout .loop) s = .next (react (ownFrameClassified (v.setLoop left))) := by
      rw [exec_returnTimeout hf hi, frameLost_loop hr, reachInstant_loop]
    rw [exec_eq]
    exact ⟨fun hs => next_react_congr (ownFrameClassified_training hs),
      fun rate hs ha => next_react_congr (ownFrameClassified_census hs ha)⟩
  · cases hr : tr.reservation <;> simp [endTransaction, dropReservation, hr]
  · intro ends failed down ungood
    have not_good {e : Ending} (h : ungood e) : ∀ f, e ≠ .good f := by
      rintro f rfl
      simp [ungood, failed, down] at h
    refine ⟨fun c ho => ?_, fun n ho => ?_, fun n ho => ?_, fun n ho e he => ?_, fun d ho => ?_⟩
    · have ends_eq (e : Ending) : ends e = contextEnds c op.node e s := ownerEnds_context ho mask w e s
      intro x
      refine ⟨fun hx e _ => ?_, fun hf ha hc => ?_⟩
      · rw [ends_eq, contextEnds_unreached]
        rcases hx with hx | hx | hx <;> simp [show (s.ctx c).state = _ from hx, JobState.hasOperation]
      · have reached : (s.ctx c).state.hasOperation = true := (hasOperation_iff _).mpr ⟨hf, ha, hc⟩
        intro faulted dropped
        have dropped_eq : ends .notPerformed = endPending c (s.setCtx c dropped) :=
          (ends_eq _).trans (deliver_notPerformed reached)
        refine ⟨?_, ?_, ?_, ?_, dropped_eq, fun p hp => ?_⟩
        · exact (ends_eq _).trans (deliver_fault _ reached)
        · exact (ends_eq _).trans (deliver_fault _ reached)
        · exact (ends_eq _).trans (deliver_fault _ reached)
        · exact (ends_eq _).trans (deliver_fault _ reached)
        · rw [dropped_eq, endPending_eq (p := p) (by simpa using hp)]
          simp [dropped]
    · have ends_eq (e : Ending) : ends e = censusEnds n e s := ownerEnds_census ho mask w e s
      intro y
      refine ⟨fun hc e _ => ?_, fun e he => ?_, fun hc e he => ⟨fun hp => ?_, fun hp => ?_⟩⟩
      · rw [ends_eq, censusEnds_abandoned hc]
      · rw [ends_eq, censusEnds_down (or_assoc.mp he)]
      · rw [ends_eq, censusEnds_failed hc he, censusFailed_present hp]
      · rw [ends_eq, censusEnds_failed hc he, censusFailed_notPresent hp]
    · have ends_eq (e : Ending) : ends e = resetEnds n e s := ownerEnds_nodeReset ho mask w e s
      refine ⟨fun hw e he => ?_, fun hw => ?_⟩
      · rw [ends_eq, resetEnds_notWaiting hw (not_good he)]
      · refine ⟨?_, ?_, ?_, fun e he => ?_⟩
        · exact (ends_eq _).trans (nodeResetEnds_waiting hw _)
        · exact (ends_eq _).trans (nodeResetEnds_waiting hw _)
        · exact (ends_eq _).trans (nodeResetEnds_waiting hw _)
        · rcases he with rfl | rfl <;> exact (ends_eq _).trans (nodeResetEnds_waiting hw _)
    · exact ownerEnds_service_ungood ho (not_good he) mask w s
    · have ends_eq (e : Ending) : ends e = cancelOpEnds d op.node w e s := ownerEnds_cancel ho mask w e s
      refine ⟨fun hw e he => ?_, ends_eq _, fun hd e he => ?_, fun n kind count hw hd => ⟨?_, fun e he => ?_⟩⟩
      · rw [ends_eq, hw, cancelOpEnds_withdrawn (not_good he)]
      · rw [ends_eq, cancelOpEnds_other hd (not_good he)]
      · rw [ends_eq, hw]
        exact cancelEnds_orphans hd false
      · refine ⟨setBit (s.heldOver n) d.val true, fun i => ?_, ?_⟩
        · rw [setBit_getLsbD _ _ _ _ d.isLt]
          by_cases h : i = d <;> simp [h, Fin.val_inj]
        · rw [ends_eq, hw, cancelOpEnds_failed (or_assoc.mp he), cancelEnds_frees hd]

end Sys2Proof.Machine
end

section
/-! SUPPORT. A return: which record and transaction it reaches, when a reply cannot be, and what a CORRUPT class comes to. -/

namespace Sys2Proof.Machine

/-! ### The record a return belongs to (R14) -/

theorem TransitRecord.isOf_iff (r : TransitRecord) (f : Frame) :
    r.isOf f = true ↔ r.tag = f.tag ∧ r.kind = f.kind ∧ r.addr = f.addr ∧ r.seq = f.seq ∧ r.retry = f.retry := by
  simp [TransitRecord.isOf, and_assoc]

theorem exec_frameReturn_unknownKind {bytes : List Byte} (h : parseFrame bytes = .unknownKind) (s : State) :
    exec (.frameReturn bytes) s = .next s := by
  simp [exec, execFrameReturn, h]

/-- A bad return with nothing on the wire. -/
theorem exec_frameReturn_corrupt_none {bytes : List Byte} {s : State} (h : parseFrame bytes = .corrupt)
    (ht : s.loop.transit = []) : exec (.frameReturn bytes) s = .next s := by
  simp [exec, execFrameReturn, h, ht]

/-- A bad return belongs to the oldest record. -/
theorem exec_frameReturn_corrupt {bytes : List Byte} {s : State} {r : TransitRecord} {rest : List TransitRecord}
    (h : parseFrame bytes = .corrupt) (ht : s.loop.transit = r :: rest) :
    exec (.frameReturn bytes) s = .next (react (classifyCorrupt r (s.setLoop { s.loop with transit := rest }))) := by
  simp [exec, execFrameReturn, h, ht, taken, dropTransit]

/-- A good return that matches no record is discarded. -/
theorem exec_frameReturn_unmatched {bytes : List Byte} {s : State} {f : Frame} (h : parseFrame bytes = .frame f)
    (hf : s.loop.transit.find? (fun r => r.isOf f) = none) : exec (.frameReturn bytes) s = .next s := by
  simp [exec, execFrameReturn, h, hf]

/-- A good return belongs to the first record it matches. -/
theorem exec_frameReturn_good {bytes : List Byte} {s : State} {f : Frame} {r : TransitRecord}
    (h : parseFrame bytes = .frame f) (hf : s.loop.transit.find? (fun r => r.isOf f) = some r) :
    exec (.frameReturn bytes) s = .next (react (goodFrame r f s)) := by
  simp [exec, execFrameReturn, h, hf, taken]

/-! ### The sender a class goes to -/

theorem classifyCorrupt_tag {r : TransitRecord} {t : Tag} {tr : Transaction} {s : State} (h : r.sender = .tag t)
    (ht : s.tag t = some tr) : classifyCorrupt r s = corruptReturn t tr s := by
  simp [classifyCorrupt, h, ht]

theorem classifyCorrupt_loop {r : TransitRecord} (h : r.sender = .loop) (s : State) :
    classifyCorrupt r s = ownFrameClassified s := by
  simp [classifyCorrupt, h]

theorem goodFrame_tag {r : TransitRecord} {t : Tag} {tr : Transaction} {s : State} (f : Frame) (h : r.sender = .tag t)
    (ht : s.tag t = some tr) :
    goodFrame r f s =
      (let v := goodReturn t tr f (s.setLoop { s.loop with transit := s.loop.transit.erase r, lost := 0 })
       if s.loop.state = .running then examineVectors f v else v) := by
  have ht' (l : LoopController) : (s.setLoop l).tag t = some tr := ht
  simp [goodFrame, classifyGood, h, ht', dropTransit]

theorem goodFrame_loop {r : TransitRecord} {s : State} (f : Frame) (h : r.sender = .loop)
    (hs : s.loop.state ≠ .running) :
    goodFrame r f s = ownFrameReturned f (s.setLoop { s.loop with transit := s.loop.transit.erase r, lost := 0 }) := by
  simp [goodFrame, classifyGood, h, hs, dropTransit]

/-- Signal vectors without a bit claim nothing (R12). -/
theorem examineVectors_none {f : Frame} (ha : f.attention = 0) (hc : f.collect = 0) (s : State) :
    examineVectors f s = s := by
  have none : serviceClaims f s = fun _ => [] := by
    funext n
    simp [serviceClaims, wantsQuery, wantsCollect, vectorBit, ha, hc]
  rw [examineVectors_eq, none, List.flatMap_eq_nil_iff.mpr fun _ _ => rfl, addClaims_nil]

/-- A good return of a transaction's own frame, with no node asking for service, is taken by its transaction. -/
theorem exec_frameReturn_reaches {s : State} {bytes : List Byte} {f : Frame} {r : TransitRecord} {t : Tag}
    {tr : Transaction} (h : ReturnReaches s bytes f r t tr) :
    exec (.frameReturn bytes) s = .next (react
      (goodReturn t tr f (s.setLoop { s.loop with transit := s.loop.transit.erase r, lost := 0 }))) := by
  rw [exec_frameReturn_good h.arrives h.found, goodFrame_tag f h.sender h.held]
  simp [examineVectors_none h.attention h.collect]

/-! ### A sending classified CORRUPT (R55) -/

theorem stateAllows_iff (kind : FrameKind) (st : NodeState) :
    stateAllows kind st = true ↔ kind = .census ∨ st = .present ∨ kind = .nodeReset ∧ st = .silent := by
  cases kind <;> simp [stateAllows]

/-- Whether a frame is still resent in STOPPING, by the kind that is on the loop (R23). -/
theorem resentInStopping_iff (tr : Transaction) :
    resentInStopping tr = true ↔ tr.probe = false ∧ (sentKind tr = .collect ∨ sentKind tr = .cancel) := by
  cases h : tr.probe <;> simp [resentInStopping, sentKind, h]

theorem corruptReturn_withdrawn {tr : Transaction} (h : tr.withdrawn = true) (t : Tag) (s : State) :
    corruptReturn t tr s = endDoubtful t tr .notPerformed s := by
  simp [corruptReturn, h]

theorem corruptReturn_stopping {tr : Transaction} {s : State} (h : tr.withdrawn = false)
    (hs : s.loop.state = .stopping ∧ ¬ resentInStopping tr = true) (t : Tag) :
    corruptReturn t tr s = endDoubtful t tr .loopDown s := by
  rw [corruptReturn, if_neg (by simp [h]), if_pos hs]

/-- A CORRUPT return that neither a withdrawal nor STOPPING ends: the node's state, the retry limit, or the next sending. -/
theorem corruptReturn_goesOn {tr : Transaction} {s : State} (h : tr.withdrawn = false)
    (hs : ¬ (s.loop.state = .stopping ∧ ¬ resentInStopping tr = true)) (t : Tag) :
    corruptReturn t tr s =
      if ¬ stateAllows (sentKind tr) (s.node tr.operation.node).state then endDoubtful t tr .nodeState s
      else if s.params.crcLimit ≤ tr.crc then endDoubtful t tr .corruptLimit s
      else resend t tr true s := by
  rw [corruptReturn, if_neg (by simp [h]), if_neg hs]

/-! ### Replies that cannot be (R54, R71) -/

theorem goodReturn_impossible {tr : Transaction} {f : Frame} {s : State} (h : impossibleReply s tr f = true) (t : Tag) :
    goodReturn t tr f s = corruptReturn t tr s := by
  simp [goodReturn, h]

theorem impossibleReply_invalid {f : Frame} (h : f.status = .invalid) (s : State) (tr : Transaction) :
    impossibleReply s tr f = true := by
  simp [impossibleReply, h]

/-- UNKNOWN answers a CANCEL alone. -/
theorem impossibleReply_unknown {f : Frame} {tr : Transaction} (h : f.status = .unknown) (hk : sentKind tr ≠ .cancel)
    (s : State) : impossibleReply s tr f = true := by
  cases hk' : sentKind tr <;> simp_all [impossibleReply]

/-- DEFERRED answers a COMMAND or a COLLECT alone. -/
theorem impossibleReply_deferred {f : Frame} {tr : Transaction} (h : f.status = .deferred)
    (hc : sentKind tr ≠ .command) (hk : sentKind tr ≠ .collect) (s : State) : impossibleReply s tr f = true := by
  cases hk' : sentKind tr <;> simp_all [impossibleReply]

/-- REFUSED does not answer a CANCEL. -/
theorem impossibleReply_cancel_refused {f : Frame} {tr : Transaction} (hk : sentKind tr = .cancel)
    (h : f.status = .refused) (s : State) : impossibleReply s tr f = true := by
  simp [impossibleReply, h, hk]

/-- DEFERRED answers a COMMAND that may be deferred, under its own id. -/
theorem impossibleReply_command_deferred {f : Frame} {tr : Transaction} (hk : sentKind tr = .command)
    (h : f.status = .deferred) (hd : tr.frame.mayDefer = false ∨ f.replyId ≠ tr.frame.deferId) (s : State) :
    impossibleReply s tr f = true := by
  rcases hd with hd | hd <;> simp [impossibleReply, h, hk, hd]

/-- A COMMAND's delivered count is one its operation can have. -/
theorem impossibleReply_command_count {f : Frame} {tr : Transaction} (hk : sentKind tr = .command)
    (h : impossibleCount tr.frame.op tr.frame.count f.delivered = true) (s : State) : impossibleReply s tr f = true := by
  cases hs : f.status <;> simp [impossibleReply, hs, hk, h]

/-- A delivered count above the count of a READ or WRITE cannot be. -/
theorem impossibleCount_words {op : CommandOp} {count delivered : Nat} (ho : op = .read ∨ op = .write)
    (h : count < delivered) : impossibleCount (some op) count delivered = true := by
  rcases ho with rfl | rfl <;> simp [impossibleCount, h]

/-- A delivered count of a PULSE or TEST cannot be. -/
theorem impossibleCount_noWords {op : CommandOp} {count delivered : Nat} (ho : op = .pulse ∨ op = .test)
    (h : delivered ≠ 0) : impossibleCount (some op) count delivered = true := by
  rcases ho with rfl | rfl <;> simp [impossibleCount, h]

theorem Frame.handsResult_iff (f : Frame) :
    f.handsResult = true ↔ f.status = .done ∨ f.status = .busy ∨ f.status = .refused := by
  simp [Frame.handsResult, or_assoc]

/-- A COLLECT's result passes the checks of R71. -/
theorem impossibleReply_collect {f : Frame} {tr : Transaction} {s : State} (hk : sentKind tr = .collect)
    (hr : f.handsResult = true)
    (h : 16 < f.delivered ∨ 15 < f.replyId ∨ impossibleResult s tr.operation.node f = true) :
    impossibleReply s tr f = true := by
  have checks : (16 < f.delivered || 15 < f.replyId || impossibleResult s tr.operation.node f) = true := by
    simpa [or_assoc] using h
  cases hs : f.status <;> simp only [impossibleReply, hs, hk, hr, checks] <;> rfl

/-- A result for a WAITING entry of the node has no more words than the entry asks for. -/
theorem impossibleResult_waiting {s : State} {n : NodeId} {f : Frame} {d : DeferId} {c : CtxId} {op : CommandOp}
    {count : Nat} {due : Instant} (hd : d.val = f.replyId) (he : s.entry d = .waiting c n op count due)
    (h : count < f.delivered ∨ (op = .pulse ∨ op = .test) ∧ f.delivered ≠ 0) : impossibleResult s n f = true := by
  have below : f.replyId < 16 := hd ▸ d.isLt
  have same : (⟨f.replyId, below⟩ : DeferId) = d := Fin.ext hd.symm
  have tooMany : (decide (count < f.delivered) || impossibleCount (some op) count f.delivered) = true := by
    rcases h with h | ⟨ho, h⟩
    · simp [h]
    · simp [impossibleCount_noWords ho h]
  simp only [impossibleResult, below, dif_pos, same, he, tooMany]
  simp

end Sys2Proof.Machine
end

section
/-! PROOF. Which returns belong to a transit record, and what each class comes to. -/

namespace Sys2Proof.Machine

/-- A TRAIN frame back intact in TRAINING is lock (R19). -/
theorem ownFrameReturned_locks {f : Frame} {s : State} (hs : s.loop.state = .training) (hk : f.kind = .train)
    (hd : f.data = trainingPattern) : ownFrameReturned f s = lock s := if_pos ⟨hs, hk, hd⟩

/-- A TRAIN frame back altered is followed by the next (R19). -/
theorem ownFrameReturned_altered {f : Frame} {s : State} (hs : s.loop.state = .training) (hd : f.data ≠ trainingPattern) :
    ownFrameReturned f s = handFrame trainFrame s := by
  rw [ownFrameReturned, if_neg fun h => hd h.2.2, ownFrameClassified_training hs]

/-- In CENSUS a good return of the loop controller's frame is classified as any other (R20). -/
theorem ownFrameReturned_census {s : State} (hs : s.loop.state = .census) (f : Frame) :
    ownFrameReturned f s = ownFrameClassified s := by
  simp [ownFrameReturned, hs]

/-- A census claim for the next address (R27). -/
theorem claimNextCensus_next {s : State} {run : CensusRun} (h : s.nodes.census = some run) (hl : run.claimed < 30) :
    claimNextCensus s =
      (s.setNodes { s.nodes with census := some { run with claimed := run.claimed + 1 } }).addClaims
        [{ owner := .census ⟨run.claimed, hl⟩, node := ⟨run.claimed, hl⟩ }] := by
  simp only [claimNextCensus, h, hl, dif_pos]
  rfl

/-- A census begins with claims for addresses 1 and 2 (R27). -/
theorem beginCensus_eq (byCommand : Bool) (s : State) :
    beginCensus byCommand s =
      (s.setNodes { s.nodes with census := some { byCommand, claimed := 2, ended := 0 } }).addClaims
        [{ owner := .census 0, node := 0 }, { owner := .census 1, node := 1 }] := by
  have first := claimNextCensus_next (s := s.setNodes { s.nodes with census := some { byCommand, claimed := 0, ended := 0 } })
    rfl (by simp)
  have second (l : List Operation) := claimNextCensus_next
    (s := (s.setNodes { s.nodes with census := some { byCommand, claimed := 1, ended := 0 } }).addClaims l) rfl (by simp)
  rw [beginCensus, first]
  refine (second _).trans ?_
  simp [State.addClaims]
  rfl

/-- Lock, block by block (R19, R27, R44, R79). -/
theorem lock_eq (s : State) :
    lock s = { s with
      loop := { s.loop with state := .census, trainingTimer := none }
      nodes :=
        { records := s.nodes.records.map fun r => { r with seq := 0 }
          census := some { byCommand := false, claimed := 2, ended := 0 } }
      window := { s.window with
        claimsS := s.window.claimsS ++ [{ owner := .census 0, node := 0 }, { owner := .census 1, node := 1 }]
        doubt := Vector.replicate 30 0 }
      deferral := { s.deferral with heldOver := Vector.replicate 30 0 } } := by
  simp [lock, beginCensus_eq, State.addClaims, State.setLoop, State.setNodes, State.setWindow, State.setDeferral]

/-- The first record of a list that a test names, from what stands before it. -/
theorem find?_first {α : Type} {p : α → Bool} {before after : List α} {x : α} (hb : ∀ q ∈ before, ¬ p q = true)
    (hx : p x = true) : (before ++ x :: after).find? p = some x :=
  List.find?_eq_some_iff_append.mpr ⟨hx, before, after, rfl, fun q hq => by simpa using hb q hq⟩

/-- Settles O41: the record by `find?`, the class by its sender, and each impossible reply by its own lemma. -/
theorem returnsMatchTransitRecords : Obligations.ReturnsMatchTransitRecords := by
  unfold Obligations.ReturnsMatchTransitRecords
  refine ⟨fun bytes s => ?_, fun t tr s => ?_⟩
  · intro retrain switch
    refine ⟨fun hp => exec_frameReturn_unknownKind hp s, fun hp => ⟨exec_frameReturn_corrupt_none hp, ?_⟩, fun f hp => ?_⟩
    · intro r rest ht
      rw [exec_frameReturn_corrupt hp ht]
      refine ⟨fun t tr hr htr => ?_, fun hr hs => ?_, fun rate hr hs ha => ?_⟩ <;>
        refine next_react_congr ?_
      · exact classifyCorrupt_tag hr htr
      · exact (classifyCorrupt_loop hr _).trans (ownFrameClassified_training hs)
      · exact (classifyCorrupt_loop hr _).trans (ownFrameClassified_census hs ha)
    · intro matching
      refine ⟨fun hn => exec_frameReturn_unmatched hp ?_, fun before after r ht hb hm => ?_⟩
      · rw [List.find?_eq_none]
        exact fun r hr hi => hn r hr ((r.isOf_iff f).mp hi)
      · intro left
        have before_not : ∀ q ∈ before, ¬ q.isOf f = true := fun q hq hi => hb q hq ((q.isOf_iff f).mp hi)
        have found : s.loop.transit.find? (fun r => r.isOf f) = some r := by
          rw [ht]
          exact find?_first before_not ((r.isOf_iff f).mpr hm)
        have erased : s.loop.transit.erase r = before ++ after := by
          rw [ht, List.erase_append_right _ fun hr => hb r hr hm, List.erase_cons_head]
        rw [exec_frameReturn_good hp found]
        refine ⟨fun t tr hr htr => ?_, fun hr => ⟨fun hs hk => ⟨fun hd => ?_, fun hd => ?_⟩, fun rate hs ha => ?_⟩⟩
        · rw [goodFrame_tag f hr htr, erased]
          exact ⟨fun hs => by rw [if_neg hs], fun hs => by rw [if_pos hs]⟩
        · rw [goodFrame_loop f hr (by simp [hs]), erased]
          exact next_react_congr (ownFrameReturned_altered (s := s.setLoop left) hs hd)
        · refine ⟨lock (s.setLoop left), ?_, ?_⟩
          · rw [goodFrame_loop f hr (by simp [hs]), erased]
            exact next_react_congr (ownFrameReturned_locks (s := s.setLoop left) hs hk hd)
          · rw [lock_eq]
            refine ⟨rfl, fun n => ?_, fun n t => ?_, fun n => ?_, rfl, rfl, rfl⟩
            · simp [State.node, vget]
            · simp [State.doubtful]
            · simp [State.heldOver]
        · rw [goodFrame_loop f hr (by simp [hs]), erased]
          exact next_react_congr
            ((ownFrameReturned_census (s := s.setLoop left) hs f).trans (ownFrameClassified_census hs ha))
  · intro n kind allowed stopped ended
    have allowed_iff : stateAllows (sentKind tr) (s.node tr.operation.node).state = true ↔ allowed := stateAllows_iff _ _
    have stopped_iff : (s.loop.state = .stopping ∧ ¬ resentInStopping tr = true) ↔ stopped := by
      rw [resentInStopping_iff]
      exact Iff.rfl
    refine ⟨fun hw => corruptReturn_withdrawn hw t s, fun hw => ⟨fun hs => ?_, fun hs ha => ?_, fun hs ha hc => ?_, ?_⟩,
      fun f => ?_⟩
    · exact corruptReturn_stopping hw (stopped_iff.mpr hs) t
    · rw [corruptReturn_goesOn hw (mt stopped_iff.mp hs), if_pos (mt allowed_iff.mp ha)]
      rfl
    · rw [corruptReturn_goesOn hw (mt stopped_iff.mp hs), if_neg (not_not_intro (allowed_iff.mpr ha)), if_pos hc]
      rfl
    · intro hs ha hc retry g
      rw [corruptReturn_goesOn hw (mt stopped_iff.mp hs), if_neg (not_not_intro (allowed_iff.mpr ha)),
        if_neg (Nat.not_le.mpr hc)]
      rfl
    · intro result overWaiting h
      refine goodReturn_impossible ?_ t
      rcases h with h | ⟨h, hk⟩ | ⟨h, hk, hk'⟩ | ⟨hk, h⟩ | ⟨hk, ⟨h, hd⟩ | ⟨ho, h⟩ | ⟨ho, h⟩⟩ | ⟨hk, hr, h⟩
      · exact impossibleReply_invalid h s tr
      · exact impossibleReply_unknown h hk s
      · exact impossibleReply_deferred h hk hk' s
      · exact impossibleReply_cancel_refused hk h s
      · exact impossibleReply_command_deferred hk h hd s
      · refine impossibleReply_command_count hk ?_ s
        rcases ho with ho | ho <;> rw [ho]
        · exact impossibleCount_words (.inl rfl) h
        · exact impossibleCount_words (.inr rfl) h
      · refine impossibleReply_command_count hk ?_ s
        rcases ho with ho | ho <;> rw [ho]
        · exact impossibleCount_noWords (.inl rfl) h
        · exact impossibleCount_noWords (.inr rfl) h
      · refine impossibleReply_collect hk (f.handsResult_iff.mpr hr) (h.imp_right (.imp_right ?_))
        rintro ⟨d, c, op, count, due, hd, he, hover⟩
        exact impossibleResult_waiting hd he hover

end Sys2Proof.Machine
end

section
/-! PROOF. A MASK answered, and the claim of a MASK. -/

namespace Sys2Proof.Machine

/-- A return that is not UNTOUCHED leaves a PRESENT node's untouched count at 0 (R33). -/
theorem countReturn_touched (n : NodeId) (s : State) :
    countReturn n false s = s.setNode n
      { s.node n with untouched := if (s.node n).state = .present then 0 else (s.node n).untouched } := by
  by_cases h : (s.node n).state = .present
  · simp [countReturn, h]
  · rw [countReturn, if_pos h, if_neg h, State.setNode_node]

@[simp] theorem State.setTag_node (s : State) (t : Tag) (x : Option Transaction) (n : NodeId) :
    (s.setTag t x).node n = s.node n := rfl

@[simp] theorem State.setDoubt_node (s : State) (m : NodeId) (t : Tag) (b : Bool) (n : NodeId) :
    (s.setDoubt m t b).node n = s.node n := rfl

@[simp] theorem State.setTag_setNode (s : State) (t : Tag) (x : Option Transaction) (n : NodeId) (y : NodeRecord) :
    (s.setTag t x).setNode n y = (s.setNode n y).setTag t x := rfl

@[simp] theorem State.setDoubt_setNode (s : State) (m : NodeId) (t : Tag) (b : Bool) (n : NodeId) (y : NodeRecord) :
    (s.setDoubt m t b).setNode n y = (s.setNode n y).setDoubt m t b := rfl

/-- A pair toggled: the tag's bit inverted in the node's record, and the doubt cleared (R43, R44). -/
theorem toggle_eq (n : NodeId) (t : Tag) (s : State) :
    toggle n t s = (s.setNode n
      { s.node n with seq := setBit (s.node n).seq t.val (!(s.node n).seq.getLsbD t.val) }).setDoubt n t false := rfl

/-- What the node and the window take in before the owner of a MASK is told (R33, R43). -/
def maskSettled (n : NodeId) (t : Tag) (status : ReplyStatus) (s : State) : State :=
  countKind .mask n status (settlePair .mask n t status s)

/-- Before its owner is told, a MASK answered leaves what `tagReleased` says but for the tag. -/
theorem tagReleased_mask {tr : Transaction} {n : NodeId} (h : tr.operation.node = n) (s : State) (f : Frame)
    (r : TransitRecord) (t : Tag) :
    tagReleased s .mask f r t tr =
      (maskSettled n t f.status (s.setLoop { s.loop with transit := s.loop.transit.erase r, lost := 0 })).setTag t none := by
  subst h
  rfl

/-- DONE toggles the pair and clears the silence count. -/
theorem maskSettled_done (n : NodeId) (t : Tag) (s : State) :
    maskSettled n t .done s = countReturn n false (toggle n t s) := rfl

/-- BUSY clears the silence count alone. -/
theorem maskSettled_busy (n : NodeId) (t : Tag) (s : State) : maskSettled n t .busy s = countReturn n false s := rfl

theorem maskEnds_done {f : Frame} (h : f.status = .done) (n : NodeId) (mask : Byte) (s : State) :
    maskEnds n mask (.good f) s = maskDone n mask s := by
  simp [maskEnds, h]

theorem maskEnds_refused {f : Frame} (h : f.status = .refused) (n : NodeId) (mask : Byte) (s : State) :
    maskEnds n mask (.good f) s = maskRefused n s := by
  simp [maskEnds, h]

theorem maskEnds_untouched {f : Frame} (h : f.status = .untouched) (n : NodeId) (mask : Byte) (s : State) :
    maskEnds n mask (.good f) s = s := by
  simp [maskEnds, h]

section
variable {tr : Transaction} {n : NodeId} (ho : tr.operation.owner = .mask n)
include ho

/-- A MASK without a reservation ends: its tag is FREE, and its owner is told. -/
theorem endTransaction_mask (hr : tr.reservation = none) (t : Tag) (e : Ending) (s : State) :
    endTransaction t tr e s = maskEnds n ((tr.frame.data.getD 0 0).setWidth 8) e (s.setTag t none) := by
  simp [endTransaction, ownerEnds, ho, hr, dropReservation]

/-- A MASK answered with a status that answers it and is not BUSY ends. -/
theorem goodReturn_mask_final (hn : tr.operation.node = n) (hr : tr.reservation = none) (hp : tr.probe = false) {f : Frame}
    (hf : f.status = .done ∨ f.status = .refused ∨ f.status = .untouched) (t : Tag) (s : State) :
    goodReturn t tr f s =
      maskEnds n ((tr.frame.data.getD 0 0).setWidth 8) (.good f) ((maskSettled n t f.status s).setTag t none) := by
  have kind : sentKind tr = .mask := by simp [sentKind, hp, ho, kindOf]
  have possible : impossibleReply s tr f = false := by
    rcases hf with hf | hf | hf <;> simp [impossibleReply, hf, kind]
  have final (v : State) : finalReturn t tr f v = endTransaction t tr (.good f) v := by simp [finalReturn, ho]
  have not_busy : f.status ≠ .busy := by rcases hf with hf | hf | hf <;> simp [hf]
  rw [← endTransaction_mask ho hr]
  simp [goodReturn, possible, kind, hp, hn, not_busy, final, maskSettled]

/-- A MASK answered BUSY. -/
theorem goodReturn_mask_busy (hn : tr.operation.node = n) (hp : tr.probe = false) {f : Frame} (hf : f.status = .busy)
    (t : Tag) (s : State) : goodReturn t tr f s = busyReturn t tr (maskSettled n t f.status s) := by
  have kind : sentKind tr = .mask := by simp [sentKind, hp, ho, kindOf]
  simp [goodReturn, impossibleReply, hf, kind, hp, hn, maskSettled]

/-- A BUSY that ends a MASK frees its tag (R57, R59, R63). -/
theorem busyReturn_mask_ended (hr : tr.reservation = none) {s : State}
    (h : tr.withdrawn = true ∨ s.loop.state = .stopping ∨ s.params.busyLimit ≤ tr.operation.busy + 1) (t : Tag) :
    busyReturn t tr s = s.setTag t none := by
  have ends (e : Ending) (he : ∀ f, e ≠ .good f) : endTransaction t tr e s = s.setTag t none := by
    rw [endTransaction_mask ho hr, maskEnds_ungood he]
  rcases h with h | h | h <;> simp +contextual [busyReturn, h, ends]

/-- Any other BUSY puts the MASK into BACKOFF (R57). -/
theorem busyReturn_mask_backoff (hr : tr.reservation = none) {s : State}
    (h : ¬ (tr.withdrawn = true ∨ s.loop.state = .stopping ∨ s.params.busyLimit ≤ tr.operation.busy + 1)) (t : Tag) :
    busyReturn t tr s = (s.setTag t none).setWindow { (s.setTag t none).window with
      backoff := (s.setTag t none).window.backoff ++
        [({ tr.operation with busy := tr.operation.busy + 1 }, s.timebase + s.params.busyBackoff)] } := by
  obtain ⟨hw, hs, hb⟩ : ¬ tr.withdrawn = true ∧ s.loop.state ≠ .stopping ∧ ¬ s.params.busyLimit ≤ tr.operation.busy + 1 := by
    simpa only [not_or] using h
  simp [busyReturn, hw, hs, hb, ho, hr, dropReservation]

end

/-- A node's record after its MASK was answered DONE on a tag (R33, R38, R43). -/
def maskedRecord (x : NodeRecord) (t : Tag) (carried desired : Byte) : NodeRecord :=
  { x with
    seq := setBit x.seq t.val (!x.seq.getLsbD t.val)
    untouched := if x.state = .present then 0 else x.untouched
    applied := carried
    dirty := if carried = desired then false else x.dirty }

/-- The tag's bit of the record alone has toggled. -/
theorem maskedRecord_seq (x : NodeRecord) (t t' : Tag) (carried desired : Byte) :
    (maskedRecord x t carried desired).seq.getLsbD t'.val = (x.seq.getLsbD t'.val != (t' == t)) := by
  rw [maskedRecord, setBit_getLsbD _ _ _ _ t.isLt]
  by_cases h : t' = t
  · simp [h]
  · have other : (t' == t) = false := by simpa using h
    simp [other, h, Fin.val_inj]

/-- A MASK answered DONE, block by block: the node's record, the pair's doubt, and the tag (R33, R38, R43). -/
theorem maskDone_eq (n : NodeId) (t : Tag) (carried : Byte) (s : State) :
    maskDone n carried ((maskSettled n t .done s).setTag t none) =
      ((s.setNode n (maskedRecord (s.node n) t carried (desiredMask s.attention.table n))).setDoubt n t false).setTag t
        none := by
  rw [maskSettled_done, countReturn_touched, toggle_eq, maskDone, State.modNode]
  simp only [State.setDoubt_node, State.setDoubt_setNode, State.setTag_node, State.setTag_setNode, State.setNode_node_self,
    State.setNode_setNode]
  rfl

/-- The loop service wants a MASK claimed for a PRESENT node that is mask-dirty and has none (R37). -/
theorem wantsMask_iff (s : State) (n : NodeId) :
    wantsMask s n = true ↔ (s.node n).state = .present ∧ (s.node n).dirty = true ∧
      operationExists s (fun o => decide (o.owner = .mask n)) = false := by
  simp [wantsMask, and_assoc]

/-- The lowest node that a test names. -/
theorem find?_finRange {k : Nat} {p : Fin k → Bool} {n : Fin k} (hn : p n = true)
    (hl : ∀ m : Fin k, m.val < n.val → ¬ p m = true) : (List.finRange k).find? p = some n := by
  rw [List.find?_eq_some_iff_getElem]
  refine ⟨hn, n.val, by simp, by simp, fun j hj => ?_⟩
  simpa using hl ⟨j, by omega⟩ hj

/-- Settles O42: the return reaches the MASK, whose status decides; the claim is the lowest node's that wants one. -/
theorem maskDoneUpdatesNode : Obligations.MaskDoneUpdatesNode := by
  unfold Obligations.MaskDoneUpdatesNode
  refine ⟨fun bytes f r t tr n s h ho hn hr => ?_, fun s => ?_⟩
  · intro carried x w raised ended
    rw [exec_frameReturn_reaches h]
    have w_eq : w = (maskSettled n t f.status _).setTag t none := tagReleased_mask hn s f r t
    refine ⟨fun hf => ?_, fun hf => ?_, fun hf => ?_, fun hf he => ?_⟩
    · rw [goodReturn_mask_final ho hn hr h.own (.inl hf), maskEnds_done hf, hf, maskDone_eq]
      let v := s.setLoop { s.loop with transit := s.loop.transit.erase r, lost := 0 }
      let y := maskedRecord x t carried (desiredMask s.attention.table n)
      let u := ((v.setNode n y).setDoubt n t false).setTag t none
      have node_eq : u.node n = y := State.setNode_node_self v n y
      have seq_eq : u.nodes.records[n.val].seq = y.seq := congrArg NodeRecord.seq node_eq
      refine ⟨u, rfl, rfl, fun t' => ?_, ?_, ?_, fun t' => ?_, fun m hm => ?_, fun m g hmg => ?_, rfl⟩
      · exact State.setTag_tag _ t t' none
      · exact (State.setDoubt_doubtful _ n n t t false).trans (if_pos ⟨rfl, rfl⟩)
      · rw [node_eq, seq_eq]
        rfl
      · rw [node_eq]
        exact maskedRecord_seq x t t' carried _
      · exact State.setNode_node_ne _ _ _ _ (Ne.symm hm)
      · exact (State.setDoubt_doubtful _ n m t g false).trans (if_neg hmg)
    · rw [goodReturn_mask_final ho hn hr h.own (.inr (.inl hf)), ← w_eq, maskEnds_refused hf]
      rfl
    · rcases hf with hf | ⟨hf, he⟩
      · rw [goodReturn_mask_final ho hn hr h.own (.inr (.inr hf)), ← w_eq, maskEnds_untouched hf]
      · rw [goodReturn_mask_busy ho hn h.own hf, busyReturn_mask_ended ho hr, ← w_eq]
        simpa [hf, maskSettled_busy, countReturn_touched, ended, raised] using he
    · rw [goodReturn_mask_busy ho hn h.own hf, busyReturn_mask_backoff ho hr, ← w_eq]
      · simp [hf, maskSettled_busy, countReturn_touched, raised]
      · simpa [hf, maskSettled_busy, countReturn_touched, ended, raised] using he
  · intro wants
    refine ⟨fun h => ?_, fun n hs hn hl => ?_⟩
    · by_cases hs : s.loop.state = .running
      · have none : (List.finRange 30).find? (wantsMask s) = none := by
          rw [List.find?_eq_none]
          exact fun m _ hm => (h.resolve_left (not_not_intro hs)) m ((wantsMask_iff s m).mp hm)
        simp [settleMask, hs, none]
      · simp [settleMask, hs]
    · have found : (List.finRange 30).find? (wantsMask s) = some n :=
        find?_finRange ((wantsMask_iff s n).mpr hn) fun m hm hw => hl m hm ((wantsMask_iff s m).mp hw)
      rw [settleMask, if_pos hs, found]
      rfl

end Sys2Proof.Machine
end

section
/-! SUPPORT. What the end of a step leaves alone while the loop is not RUNNING: the loop controller, the window, the nodes and
the deferral table. One lemma for each operation, up to a fault that reaches a context. -/

namespace Sys2Proof.Machine

/-- The blocks that stand on the wire's side of the job engine, but for the deferral table. -/
structure Wire where
  loop : LoopController
  window : Window
  nodes : NodeUnit

/-- Those blocks with the deferral table. -/
structure Bus extends Wire where
  deferral : DeferTable

/-- The wire's side of a state. -/
def State.bus (s : State) : Bus := { loop := s.loop, window := s.window, nodes := s.nodes, deferral := s.deferral }

section
variable {s t : State}

theorem loop_eq_of_bus (h : s.bus = t.bus) : s.loop = t.loop := congrArg (·.loop) h
theorem window_eq_of_bus (h : s.bus = t.bus) : s.window = t.window := congrArg (·.window) h
theorem node_eq_of_bus (h : s.bus = t.bus) (n : NodeId) : s.node n = t.node n :=
  congrArg (fun b : Bus => vget b.nodes.records n) h
theorem entry_eq_of_bus (h : s.bus = t.bus) (d : DeferId) : s.entry d = t.entry d :=
  congrArg (fun b : Bus => vget b.deferral.entries d) h
theorem loop_eq_of_wire (h : s.bus.toWire = t.bus.toWire) : s.loop = t.loop := congrArg (·.loop) h
theorem window_eq_of_wire (h : s.bus.toWire = t.bus.toWire) : s.window = t.window := congrArg (·.window) h
theorem node_eq_of_wire (h : s.bus.toWire = t.bus.toWire) (n : NodeId) : s.node n = t.node n :=
  congrArg (fun w : Wire => vget w.nodes.records n) h

end

/-- Operations one after another keep what each of them keeps of a view, as long as the view has the property they need. -/
theorem foldl_keeps {α β : Type} {g : State → β} {P : β → Prop} {f : State → α → State}
    (h : ∀ s a, P (g s) → g (f s a) = g s) (l : List α) {s : State} (hs : P (g s)) : g (l.foldl f s) = g s := by
  induction l generalizing s with
  | nil => rfl
  | cons a l ih =>
    have step := h s a hs
    rw [List.foldl_cons, ih (by rwa [step]), step]

/-! ### Updates of other blocks -/

@[simp] theorem State.setRings_bus (s : State) (x : RingEngine) : (s.setRings x).bus = s.bus := rfl
@[simp] theorem State.setAdmin_bus (s : State) (x : AdminUnit) : (s.setAdmin x).bus = s.bus := rfl
@[simp] theorem State.setHandOver_bus (s : State) (x : List CtxId) : (s.setHandOver x).bus = s.bus := rfl
@[simp] theorem State.setNotices_bus (s : State) (x : List Notice) : (s.setNotices x).bus = s.bus := rfl
@[simp] theorem State.setCtx_bus (s : State) (c : CtxId) (x : Context) : (s.setCtx c x).bus = s.bus := rfl
@[simp] theorem State.modCtx_bus (s : State) (c : CtxId) (f : Context → Context) : (s.modCtx c f).bus = s.bus := rfl
@[simp] theorem State.setStored_bus (s : State) (id : ListId) (x : StoredList) : (s.setStored id x).bus = s.bus := rfl
@[simp] theorem State.setSubRing_bus (s : State) (r : RingId) (x : SubRing) : (s.setSubRing r x).bus = s.bus := rfl
@[simp] theorem State.setCompRing_bus (s : State) (k : RingId) (x : CompRing) : (s.setCompRing k x).bus = s.bus := rfl
@[simp] theorem State.setCaptureRing_bus (s : State) (k : SlotId) (x : CaptureRing) :
    (s.setCaptureRing k x).bus = s.bus := rfl
@[simp] theorem State.setSlot_bus (s : State) (k : SlotId) (x : Slot) : (s.setSlot k x).bus = s.bus := rfl
@[simp] theorem State.modAttention_bus (s : State) (key : Key) (f : AttentionEntry → AttentionEntry) :
    (s.modAttention key f).bus = s.bus := rfl
@[simp] theorem notify_bus (subject : Subject) (body : NoticeBody) (s : State) : (notify subject body s).bus = s.bus := rfl
@[simp] theorem notifySlot_bus (k : SlotId) (reason : SlotReason) (s : State) : (notifySlot k reason s).bus = s.bus := rfl

/-! ### Records handed over -/

@[simp] theorem releaseReference_bus (id : ListId) (s : State) : (releaseReference id s).bus = s.bus := by
  unfold releaseReference
  split <;> simp

@[simp] theorem releaseList_bus (x : Context) (s : State) : (releaseList x s).bus = s.bus := by
  unfold releaseList
  split <;> simp

@[simp] theorem freeContext_bus (c : CtxId) (s : State) : (freeContext c s).bus = s.bus := by
  unfold freeContext
  dsimp only
  split <;> simp

@[simp] theorem releaseSource_bus (p : PostedRecord) (s : State) : (releaseSource p s).bus = s.bus := by
  cases p <;> simp [releaseSource, clearAdmin]

@[simp] theorem handRecord_bus (k : RingId) (p : PostedRecord) (s : State) : (handRecord k p s).bus = s.bus := by
  unfold handRecord
  dsimp only
  split <;> simp

@[simp] theorem endAdmin_bus (outcome : AdminOutcome) (detail : Option Nat) (s : State) :
    (endAdmin outcome detail s).bus = s.bus := by
  unfold endAdmin
  split <;> simp

@[simp] theorem handJob_bus (c : CtxId) (s : State) : (handJob c s).bus = s.bus := by
  unfold handJob
  split <;> simp

@[simp] theorem handNext_bus (s : State) (c : CtxId) : (handNext s c).bus = s.bus := by
  unfold handNext
  split <;> simp

@[simp] theorem handOverRecords_bus (s : State) : (handOverRecords s).bus = s.bus :=
  foldl_keeps (P := fun _ => True) (fun s c _ => handNext_bus s c) _ trivial

@[simp] theorem enterCompleting_bus (c : CtxId) (outcome : JobOutcome) (s : State) :
    (enterCompleting c outcome s).bus = s.bus := by
  simp [enterCompleting]

/-! ### The ends of internal runs -/

@[simp] theorem attentionRunEnds_bus (key : Key) (e : RunEnding) (s : State) : (attentionRunEnds key e s).bus = s.bus := by
  unfold attentionRunEnds enterPosting
  split <;> simp

@[simp] theorem finishSlotStop_bus (k : SlotId) (s : State) : (finishSlotStop k s).bus = s.bus := by
  unfold finishSlotStop returnToIdle
  dsimp only
  split <;> simp

@[simp] theorem suspendSlot_bus (k : SlotId) (reason : SlotReason) (s : State) : (suspendSlot k reason s).bus = s.bus := by
  unfold suspendSlot
  dsimp only
  split <;> simp

@[simp] theorem answerOffer_bus (k : SlotId) (answer : OfferAnswer) (s : State) : (answerOffer k answer s).bus = s.bus := by
  unfold answerOffer
  dsimp only
  split
  · simp
  · cases answer with
    | posted => simp
    | fault => simp
    | full => dsimp only; split <;> simp

@[simp] theorem slotRunEnds_bus (k : SlotId) (e : RunEnding) (s : State) : (slotRunEnds k e s).bus = s.bus := by
  unfold slotRunEnds offerSnapshot
  split
  · rfl
  · dsimp only
    split <;> simp

@[simp] theorem endRun_bus (c : CtxId) (s : State) : (endRun c s).bus = s.bus := by
  unfold endRun
  dsimp only
  split <;> simp

@[simp] theorem endJob_bus (c : CtxId) (s : State) : (endJob c s).bus = s.bus := by
  unfold endJob
  split <;> simp

/-! ### Steps while the loop is not RUNNING -/

/-- A step started while the loop is not RUNNING ends at once: no claim is made (R111). -/
theorem beginStep_down {s : State} (h : s.loop.state ≠ .running) (c : CtxId) (p : Step) :
    beginStep c p s = .ends (.fault .loopDown)
      (s.modCtx c fun x => { x with state := .ready, remaining := p.count, tries := 0, pause := none }) := by
  simp [beginStep, h]

theorem runSteps_bus (fuel : Nat) (c : CtxId) {s : State} (h : s.loop.state ≠ .running) :
    (runSteps fuel c s).bus = s.bus := by
  induction fuel generalizing s with
  | zero => rfl
  | succ fuel ih =>
    unfold runSteps
    split
    · exact endJob_bus c s
    · rw [beginStep_down h]
      dsimp only
      split
      · simp
      · exact ih h

@[simp] theorem endPending_bus (c : CtxId) (s : State) : (endPending c s).bus = s.bus := by
  simp [endPending]

theorem endStep_bus (c : CtxId) (e : StepEnd) {s : State} (h : s.loop.state ≠ .running) : (endStep c e s).bus = s.bus := by
  unfold endStep afterStep
  split
  · rfl
  · split
    · simp
    · split
      · simp
      · exact runSteps_bus _ c h

/-- A fault that reaches a context while the loop is not RUNNING leaves the wire's side alone. -/
theorem deliver_fault_bus (c : CtxId) (cause : Cause) {s : State} (h : s.loop.state ≠ .running) :
    (deliver c (.fault cause) s).bus = s.bus := by
  unfold deliver
  split
  · exact endStep_bus c _ h
  · rfl

theorem pauseLoopDown_bus (c : CtxId) {s : State} (h : s.loop.state ≠ .running) : (pauseLoopDown c s).bus = s.bus := by
  unfold pauseLoopDown
  split
  · exact deliver_fault_bus c _ h
  · exact deliver_fault_bus c _ h
  · rfl

/-- The paused jobs told that the loop is down leave the wire's side alone. -/
theorem jobsLoopDown_bus {s : State} (h : s.loop.state ≠ .running) : (jobsLoopDown s).bus = s.bus :=
  foldl_keeps (P := fun b : Bus => b.loop.state ≠ .running) (fun _ c hs => pauseLoopDown_bus c hs) _ h

/-! ### LOOP_DOWN at an operation's owner -/

theorem cancelEnds_wire (d : DeferId) (s : State) (held : Bool) : (cancelEnds d s false held).bus.toWire = s.bus.toWire := by
  unfold cancelEnds
  split <;> rfl

/-- LOOP_DOWN at an owner changes nothing of the loop controller, the window and the nodes, but may orphan a deferral entry
(R76). -/
theorem ownerEnds_loopDown_wire (op : Operation) (mask : Byte) (w : Bool) {s : State} (h : s.loop.state ≠ .running) :
    (ownerEnds op mask w .loopDown s).bus.toWire = s.bus.toWire := by
  cases ho : op.owner with
  | context c =>
    rw [ownerEnds_context ho]
    exact congrArg Bus.toWire (deliver_fault_bus c _ h)
  | query n => rw [ownerEnds_service_ungood (.inl ho) (by simp)]
  | mask n => rw [ownerEnds_service_ungood (.inr (.inl ho)) (by simp)]
  | collect n => rw [ownerEnds_service_ungood (.inr (.inr ho)) (by simp)]
  | census n => rw [ownerEnds_census ho, censusEnds_down (.inl rfl)]
  | nodeReset n =>
    rw [ownerEnds_nodeReset ho]
    show (nodeResetEnds .loopDown s).bus.toWire = _
    unfold nodeResetEnds
    split <;> simp
  | cancel d =>
    rw [ownerEnds_cancel ho]
    cases w with
    | true => rfl
    | false => exact cancelEnds_wire d s false

end Sys2Proof.Machine
end

section
/-! SUPPORT. What a break of the loop leaves of the window, the deferral table and the nodes. -/

namespace Sys2Proof.Machine

/-! ### The window emptied -/

theorem dropReservation_setWindow (r : Option DeferId) (s : State) (w : Window) :
    dropReservation r (s.setWindow w) = (dropReservation r s).setWindow w := by
  cases r <;> rfl

/-- Reservations given back do not touch the window. -/
theorem foldl_dropReservation_setWindow (l : List Transaction) (s : State) (w : Window) :
    l.foldl (fun v tr => dropReservation tr.reservation v) (s.setWindow w)
      = (l.foldl (fun v tr => dropReservation tr.reservation v) s).setWindow w := by
  induction l generalizing s with
  | nil => rfl
  | cons tr l ih => rw [List.foldl_cons, List.foldl_cons, dropReservation_setWindow, ih]

theorem dropReservation_wire (r : Option DeferId) (s : State) : (dropReservation r s).bus.toWire = s.bus.toWire := by
  cases r <;> rfl

/-- A window with no operation in it: every tag FREE, no claim and no backoff. -/
def Window.emptied (w : Window) : Window :=
  { w with tags := Vector.replicate 8 none, claimsS := [], claimsI := [], claimsJ := [], backoff := [] }

/-- The tags and the queues empty before any owner is told (R64). -/
theorem dropQueued_freeWindow (s : State) :
    dropQueued (freeWindow s) =
      (heldTransactions s.window).foldl (fun v tr => dropReservation tr.reservation v) (s.setWindow s.window.emptied) := by
  rw [dropQueued, freeWindow, foldl_dropReservation_setWindow, foldl_dropReservation_setWindow]
  rfl

/-- The window emptied leaves the loop controller and the nodes, and of the window the doubt flags and the turn (R64). -/
theorem emptyWindow_wire {s : State} (h : s.loop.state ≠ .running) :
    (emptyWindow s).bus.toWire = (s.setWindow s.window.emptied).bus.toWire := by
  have kept {α : Type} {f : State → α → State}
      (hf : ∀ s a, s.loop.state ≠ .running → (f s a).bus.toWire = s.bus.toWire) (l : List α) {v : State}
      (hv : v.bus.toWire = (s.setWindow s.window.emptied).bus.toWire) :
      (l.foldl f v).bus.toWire = (s.setWindow s.window.emptied).bus.toWire := by
    have down : v.loop.state ≠ .running := by rw [loop_eq_of_wire hv]; exact h
    rw [← hv]
    exact foldl_keeps (g := fun v => v.bus.toWire) (P := fun w => w.loop.state ≠ .running) hf l down
  unfold emptyWindow
  rw [dropQueued_freeWindow]
  refine kept (fun v op hv => ownerEnds_loopDown_wire op 0 false hv) _ ?_
  refine kept (fun v tr hv => ownerEnds_loopDown_wire tr.operation _ tr.withdrawn hv) _ ?_
  exact kept (fun v tr _ => dropReservation_wire tr.reservation v) _ rfl

/-! ### The deferral table freed -/

/-- An entry freed: the node that kept its operation keeps one less (R39). -/
theorem freeEntry_keeps (d : DeferId) (s : State) :
    (freeEntry d s).loop = s.loop ∧ (freeEntry d s).window = s.window ∧
      ∀ n, ((freeEntry d s).node n).seq = (s.node n).seq := by
  unfold freeEntry
  dsimp only
  split
  · refine ⟨rfl, rfl, fun m => ?_⟩
    rename_i n _
    by_cases h : n = m
    · subst h
      rw [State.modNode_node_self]
      rfl
    · rw [State.modNode, State.setNode_node_ne _ _ _ _ h]
      rfl
  · exact ⟨rfl, rfl, fun _ => rfl⟩

theorem freeEntry_entry (d d' : DeferId) (s : State) :
    (freeEntry d s).entry d' = if d = d' then .free else s.entry d' := by
  have table : (freeEntry d s).deferral = (s.setEntry d .free).deferral := by
    unfold freeEntry
    dsimp only
    split <;> rfl
  rw [State.entry, table]
  exact vget_vset _ _ _ _

/-- The table told that the loop is down, at one entry: the wire's side is as the freeing of the entry leaves it. -/
theorem entryLoopDown_bus (d : DeferId) {s : State} (h : s.loop.state ≠ .running) :
    (entryLoopDown s d).bus = (freeEntry d s).bus := by
  unfold entryLoopDown
  split
  · exact deliver_fault_bus _ _ (by rwa [(freeEntry_keeps d s).1])
  · rfl

/-- What the table told that the loop is down keeps: the loop controller, the window and the sequence bits. -/
def State.lasting (s : State) : LoopController × Window × (NodeId → Byte) := (s.loop, s.window, fun n => (s.node n).seq)

theorem lasting_eq_iff (s t : State) :
    s.lasting = t.lasting ↔ s.loop = t.loop ∧ s.window = t.window ∧ ∀ n, (s.node n).seq = (t.node n).seq := by
  simp [State.lasting, funext_iff]

theorem State.setNodes_entry (s : State) (x : NodeUnit) (d : DeferId) : (s.setNodes x).entry d = s.entry d := rfl

/-- A record after every record has been changed. -/
theorem mapNodes_node (s : State) (f : NodeRecord → NodeRecord) (n : NodeId) :
    (s.setNodes { s.nodes with records := s.nodes.records.map f }).node n = f (s.node n) := by
  simp [State.node, vget]

theorem entryLoopDown_lasting (d : DeferId) {s : State} (h : s.loop.state ≠ .running) :
    (entryLoopDown s d).lasting = s.lasting := by
  have bus := entryLoopDown_bus d h
  obtain ⟨loop, window, seq⟩ := freeEntry_keeps d s
  simp only [State.lasting, loop_eq_of_bus bus, window_eq_of_bus bus, node_eq_of_bus bus, loop, window, seq]

/-- After a list of entries has been told, they are FREE, and so is every entry that was. -/
theorem foldl_entryLoopDown_free (l : List DeferId) {s : State} (h : s.loop.state ≠ .running) {d : DeferId}
    (hd : d ∈ l ∨ s.entry d = .free) : (l.foldl entryLoopDown s).entry d = .free := by
  induction l generalizing s with
  | nil => simpa using hd
  | cons a l ih =>
    have entry_eq : (entryLoopDown s a).entry d = if a = d then .free else s.entry d := by
      rw [← freeEntry_entry]
      exact entry_eq_of_bus (entryLoopDown_bus a h) d
    have loop_eq : (entryLoopDown s a).loop = s.loop := congrArg Prod.fst (entryLoopDown_lasting a h)
    rw [List.foldl_cons]
    refine ih (by rwa [loop_eq]) ?_
    by_cases ha : a = d
    · exact .inr (by rw [entry_eq, if_pos ha])
    · rw [entry_eq, if_neg ha]
      exact hd.imp_left fun hm => (List.mem_cons.mp hm).resolve_left (Ne.symm ha)

/-- The table told that the loop is down: every entry FREE, no operation kept at a node, and the loop controller, the window
and the sequence bits as they were (R79, R80). -/
theorem tableLoopDown_frees {s : State} (h : s.loop.state ≠ .running) :
    (∀ d, (tableLoopDown s).entry d = .free) ∧ (∀ n, ((tableLoopDown s).node n).outstanding = 0) ∧
      (tableLoopDown s).loop = s.loop ∧ (tableLoopDown s).window = s.window ∧
      ∀ n, ((tableLoopDown s).node n).seq = (s.node n).seq := by
  have lasting : ((List.finRange 16).foldl entryLoopDown s).lasting = s.lasting :=
    foldl_keeps (g := State.lasting) (P := fun x => x.1.state ≠ .running) (fun _ d hs => entryLoopDown_lasting d hs) _ h
  obtain ⟨loop, window, seq⟩ := (lasting_eq_iff _ _).mp lasting
  refine ⟨fun d => ?_, fun n => ?_, ?_, ?_, fun n => ?_⟩
  · rw [tableLoopDown, State.setNodes_entry]
    exact foldl_entryLoopDown_free _ h (.inl (List.mem_finRange d))
  · rw [tableLoopDown, mapNodes_node]
  · rw [tableLoopDown, State.setNodes_loop, loop]
  · rw [tableLoopDown, State.setNodes_window, window]
  · rw [tableLoopDown, mapNodes_node, ← seq]

/-! ### A break as a whole -/

/-- No census, and no CENSUS waiting or in BACKOFF. -/
def State.withoutCensus (s : State) : State :=
  withdrawQueued (fun op => kindOf op.owner = .census) (s.setNodes { s.nodes with census := none })

/-- A census abandoned ends the command that waits for it, with the number of addresses finished (R32, R154). -/
theorem abandonCensus_run {s : State} {run : CensusRun} (h : s.nodes.census = some run) :
    abandonCensus s =
      if run.byCommand = true ∧ adminWait s.withoutCensus = some .census then
        endAdmin .loopDown (some run.ended) s.withoutCensus
      else s.withoutCensus := by
  simp only [abandonCensus, h]
  rfl

theorem abandonCensus_none {s : State} (h : s.nodes.census = none) : abandonCensus s = s := by
  simp [abandonCensus, h]

/-- A census abandoned leaves the loop controller, the node records, and of the window the doubt flags and the turn (R32). -/
theorem abandonCensus_keeps (s : State) :
    (abandonCensus s).loop = s.loop ∧ (∀ n, (abandonCensus s).node n = s.node n) ∧
      (abandonCensus s).window.doubt = s.window.doubt ∧ (abandonCensus s).window.turn = s.window.turn := by
  cases h : s.nodes.census with
  | none =>
    rw [abandonCensus_none h]
    exact ⟨rfl, fun _ => rfl, rfl, rfl⟩
  | some run =>
    have bus : (abandonCensus s).bus = s.withoutCensus.bus := by
      rw [abandonCensus_run h]
      split <;> simp
    rw [loop_eq_of_bus bus, window_eq_of_bus bus]
    exact ⟨rfl, fun n => (node_eq_of_bus bus n).trans rfl, rfl, rfl⟩

theorem failLoopStart_bus (reason : LoopReason) (s : State) : (failLoopStart reason s).bus = s.bus := by
  unfold failLoopStart
  split <;> simp

end Sys2Proof.Machine
end

section
/-! PROOF. A break empties the window and the deferral table, and whom it reaches. -/

namespace Sys2Proof.Machine

/-- The blocks of a state in which the window and the table are empty and the loop is down. -/
theorem tellBroken_empties {s : State} (h : s.loop.state ≠ .running) :
    let t := tellBroken s
    t.loop = s.loop ∧ (∃ w : Window, t.window = w.emptied ∧ w.doubt = s.window.doubt ∧ w.turn = s.window.turn) ∧
      (∀ d, t.entry d = .free) ∧ (∀ n, (t.node n).outstanding = 0) ∧ ∀ n, (t.node n).seq = (s.node n).seq := by
  intro t
  obtain ⟨loop₁, node₁, doubt₁, turn₁⟩ := abandonCensus_keeps s
  have wire₂ := emptyWindow_wire (s := abandonCensus s) (by rwa [loop₁])
  have loop₂ : (emptyWindow (abandonCensus s)).loop = s.loop := (loop_eq_of_wire wire₂).trans loop₁
  have down₂ : (emptyWindow (abandonCensus s)).loop.state ≠ .running := by rwa [loop₂]
  obtain ⟨free₃, outstanding₃, loop₃, window₃, seq₃⟩ := tableLoopDown_frees down₂
  have bus₄ : t.bus = (tableLoopDown (emptyWindow (abandonCensus s))).bus := jobsLoopDown_bus (by rwa [loop₃])
  refine ⟨?_, ⟨(abandonCensus s).window, ?_, doubt₁, turn₁⟩, fun d => ?_, fun n => ?_, fun n => ?_⟩
  · rw [loop_eq_of_bus bus₄, loop₃, loop₂]
  · rw [window_eq_of_bus bus₄, window₃]
    exact window_eq_of_wire wire₂
  · rw [entry_eq_of_bus bus₄, free₃]
  · rw [node_eq_of_bus bus₄, outstanding₃]
  · rw [node_eq_of_bus bus₄, seq₃, node_eq_of_wire wire₂]
    exact congrArg NodeRecord.seq (node₁ n)

end Sys2Proof.Machine
end

section
/-! PROOF. A break empties the window and the deferral table, and whom a break, a stop and OFF reach. -/

namespace Sys2Proof.Machine

/-! ### Whom a loop that goes down reaches -/

/-- Two operations that take every state to the same state, one after another over a list. -/
theorem foldl_congr_step {α : Type} {f g : State → α → State} (h : ∀ v a, f v a = g v a) {l : List α} {s : State} :
    l.foldl f s = l.foldl g s := by
  rw [show f = g from funext fun v => funext fun a => h v a]

/-- The window emptied: the reservations given back, then each transaction and each queued operation ends LOOP_DOWN (R64). -/
theorem emptyWindow_eq (s : State) :
    emptyWindow s = (queuedOps s.window).foldl operationLoopDown
      (((List.finRange 8).filterMap s.tag).foldl transactionLoopDown
        (((List.finRange 8).filterMap s.tag).foldl (fun v tr => dropReservation tr.reservation v)
          (s.setWindow s.window.emptied))) := by
  rw [emptyWindow, dropQueued_freeWindow, heldTransactions_eq]

/-- An entry with no owner to tell is freed. -/
theorem entryLoopDown_unowned {s : State} {d : DeferId} (h : ∀ c n kind count due, s.entry d ≠ .waiting c n kind count due) :
    entryLoopDown s d = freeEntry d s := by
  unfold entryLoopDown
  split
  · exact absurd ‹_› (h _ _ _ _ _)
  · rfl

/-- A WAITING entry is freed, and its owner's step faults LOOP_DOWN if it has one running (R80). -/
theorem entryLoopDown_waiting {s : State} {d : DeferId} {c : CtxId} {n : NodeId} {kind : CommandOp} {count : Nat}
    {due : Instant} (h : s.entry d = .waiting c n kind count due) :
    entryLoopDown s d =
      if (s.ctx c).state.hasOperation then endStep c (.fault .loopDown) (outcomeTaken c (freeEntry d s))
      else freeEntry d s := by
  have ctx_eq : (freeEntry d s).ctx c = s.ctx c := by
    unfold freeEntry
    dsimp only
    split <;> rfl
  simp only [entryLoopDown, h]
  cases ho : (s.ctx c).state.hasOperation with
  | true => exact deliver_fault _ (by rwa [ctx_eq])
  | false => exact deliver_unreached _ (by rwa [ctx_eq])

/-- An entry whose operation no node keeps becomes FREE, and nothing else changes (R66). -/
theorem freeEntry_unkept {s : State} {d : DeferId} (h : (s.entry d).keptAt = none) : freeEntry d s = s.setEntry d .free := by
  simp [freeEntry, h]

/-- An entry whose operation a node keeps becomes FREE, and the node keeps one less (R39). -/
theorem freeEntry_kept {s : State} {d : DeferId} {n : NodeId} (h : (s.entry d).keptAt = some n) :
    freeEntry d s = (s.setEntry d .free).setNode n { s.node n with outstanding := (s.node n).outstanding - 1 } := by
  simp only [freeEntry, h]
  rfl

/-- A paused job whose pause is a DELAY's or an AWAIT's faults LOOP_DOWN (R92). -/
theorem deliver_loopDown_paused {s : State} {c : CtxId} (h : (s.ctx c).state = .paused) :
    deliver c (.fault .loopDown) s = endStep c (.fault .loopDown) (outcomeTaken c s) :=
  deliver_fault _ (by rw [h]; rfl)

/-- Settles O50: what a break leaves by `tellBroken_empties`, and each telling in the statement's words. -/
theorem breakEmptiesWindowAndTable : Obligations.BreakEmptiesWindowAndTable := by
  unfold Obligations.BreakEmptiesWindowAndTable
  refine ⟨fun reason s => ?_, ?_⟩
  · intro t
    obtain ⟨loop, ⟨w, window, doubt, turn⟩, free, outstanding, seq⟩ :=
      tellBroken_empties (s := enterBroken reason s) (show LoopState.broken ≠ .running by decide)
    have bus : t.bus = (tellBroken (enterBroken reason s)).bus := failLoopStart_bus reason _
    have loop_eq : t.loop = (enterBroken reason s).loop := (loop_eq_of_bus bus).trans loop
    have window_eq : t.window = w.emptied := (window_eq_of_bus bus).trans window
    rw [loop_eq, window_eq]
    refine ⟨rfl, rfl, rfl, rfl, fun g => ?_, rfl, rfl, rfl, rfl, fun d => ?_, fun n => ?_, doubt, turn, fun n => ?_⟩
    · rw [State.tag, window_eq]
      exact vget_replicate none g
    · rw [entry_eq_of_bus bus, free]
    · rw [node_eq_of_bus bus, outstanding]
    · rw [node_eq_of_bus bus, seq]
      rfl
  · intro queued lost told
    refine ⟨fun s => ⟨rfl, rfl, ?_, ?_, ?_⟩, fun s => abandonCensus_none, fun run s hrun => ?_⟩
    · intro held freed
      have freed_eq : held.foldl (fun v tr => dropReservation tr.reservation v) (s.setWindow s.window.emptied) = freed :=
        foldl_congr_step fun v tr => by cases tr.reservation <;> rfl
      rw [emptyWindow_eq, freed_eq]
      rfl
    · intro freed
      have freed_eq : (List.finRange 16).foldl entryLoopDown s = freed := by
        refine foldl_congr_step fun v d => ?_
        cases hd : v.entry d with
        | waiting c n kind count due =>
          rw [entryLoopDown_waiting hd, freeEntry_kept (by rw [hd]; rfl)]
        | orphaned n kind count | cancelling n kind count =>
          rw [entryLoopDown_unowned (by simp [hd]), freeEntry_kept (by rw [hd]; rfl)]
        | reserved c n kind count early | free =>
          rw [entryLoopDown_unowned (by simp [hd]), freeEntry_unkept (by rw [hd]; rfl)]
      rw [tableLoopDown, freed_eq]
    · refine foldl_congr_step fun v c => ?_
      unfold pauseLoopDown
      cases hs : (v.ctx c).state with
      | paused =>
        cases (v.ctx c).pause with
        | none => rfl
        | some p =>
          cases p with
          | busy => rfl
          | delay due | await due => exact deliver_loopDown_paused hs
      | free | admitting | ready | issued | deferred | aborting | completing => rfl
    · intro kept v
      have kept_eq : kept = fun op => !decide (kindOf op.owner = .census) := by
        funext op
        show (match op.owner with | .census _ => false | _ => true) = _
        cases op.owner <;> rfl
      have v_eq : s.withoutCensus = v := by
        simp only [v, kept_eq]
        rfl
      rw [abandonCensus_run hrun, v_eq]
      exact ⟨fun hb hw => if_pos ⟨hb, hw⟩, fun h => if_neg h⟩

end Sys2Proof.Machine
end

section
/-! PROOF. CENSUS and NODE RESET: their checks, and the claims they make. -/

namespace Sys2Proof.Machine

@[simp] theorem waitAdmin_nodes (e : AdminWait) (s : State) : (waitAdmin e s).nodes = s.nodes := by
  unfold waitAdmin
  split <;> rfl

@[simp] theorem waitAdmin_window (e : AdminWait) (s : State) : (waitAdmin e s).window = s.window := by
  unfold waitAdmin
  split <;> rfl

/-- CENSUS, dispatched, is carried out. -/
theorem exec_census {s : State} (h : dispatched s = some .census) : exec .census s = .next (react (censusCommand s)) := by
  simp [exec, execCensus, h, taken]

/-- NODE RESET, dispatched, is carried out. -/
theorem exec_nodeReset {node : Nat} {s : State} (h : dispatched s = some (.nodeReset node)) :
    exec .nodeReset s = .next (react (nodeReset node s)) := by
  simp [exec, execNodeReset, h, taken]

/-- No node stands at a loop address outside 1-30 (R2). -/
theorem nodeAt?_outside {addr : Nat} (h : ¬ (1 ≤ addr ∧ addr ≤ 30)) : nodeAt? addr = none := dif_neg h

/-- A node stands at its loop address (R2). -/
theorem nodeAt?_nodeAddr (n : NodeId) : nodeAt? (n.val + 1) = some n := dif_pos ⟨by omega, by omega⟩

/-- CENSUS in RUNNING begins the census (R154). -/
theorem censusCommand_running {s : State} (h : s.loop.state = .running) :
    censusCommand s = beginCensus true (waitAdmin .census s) := if_pos h

/-- CENSUS in any other loop state is refused (R154). -/
theorem censusCommand_notRunning {s : State} (h : s.loop.state ≠ .running) :
    censusCommand s = endAdmin .loopNotRunning (some s.loop.state.code) s := if_neg h

theorem nodeReset_malformed {node : Nat} (h : ¬ (1 ≤ node ∧ node ≤ 30)) (s : State) :
    nodeReset node s = endAdmin .malformed none s := by
  simp only [nodeReset, nodeAt?_outside h]

theorem nodeReset_notRunning {s : State} (h : s.loop.state ≠ .running) (n : NodeId) :
    nodeReset (n.val + 1) s = endAdmin .loopNotRunning (some s.loop.state.code) s := by
  simp only [nodeReset, nodeAt?_nodeAddr]
  exact if_pos h

theorem nodeReset_badState {s : State} {n : NodeId} (h : s.loop.state = .running)
    (hn : (s.node n).state = .absent ∨ (s.node n).state = .incompatible) :
    nodeReset (n.val + 1) s = endAdmin .badState (some (s.node n).state.code) s := by
  rcases hn with hn | hn <;> simp [nodeReset, nodeAt?_nodeAddr, h, hn]

theorem nodeReset_claims {s : State} {n : NodeId} (h : s.loop.state = .running)
    (hn : (s.node n).state = .present ∨ (s.node n).state = .silent) :
    nodeReset (n.val + 1) s = (waitAdmin .nodeReset s).addClaims [{ owner := .nodeReset n, node := n }] := by
  rw [← pushClaim_classS _ rfl]
  rcases hn with hn | hn <;> simp [nodeReset, nodeAt?_nodeAddr, h, hn]

/-- Settles O24: each command by the loop state and the checks on its node. -/
theorem censusAndNodeResetClaim : Obligations.CensusAndNodeResetClaim := by
  unfold Obligations.CensusAndNodeResetClaim
  refine ⟨fun s hd => ?_, fun node s hd => ?_⟩
  · rw [exec_census hd]
    refine ⟨fun h => ?_, fun h => by rw [censusCommand_notRunning h]⟩
    rw [censusCommand_running h, beginCensus_eq, State.addClaims, waitAdmin_nodes, State.setNodes_window, waitAdmin_window]
  · rw [exec_nodeReset hd]
    refine ⟨fun h => by rw [nodeReset_malformed h], ?_⟩
    rintro n rfl
    refine ⟨fun h => by rw [nodeReset_notRunning h], fun h => ⟨fun hn => by rw [nodeReset_badState h hn], fun hn => ?_⟩⟩
    rw [nodeReset_claims h hn, State.addClaims, waitAdmin_window]

end Sys2Proof.Machine
end

section
/-! SUPPORT. What the end of a step leaves alone in any loop state: the nodes, the query-refused flags and, while no SLOT STOP
waits, the command in progress. One lemma for each operation, up to a fault that reaches a context. -/

namespace Sys2Proof.Machine

/-- The blocks that stand aside while a job goes on. -/
structure Aside where
  nodes : NodeUnit
  queryRefused : BitVec 30
  admin : AdminUnit

/-- Those blocks of a state. -/
def State.aside (s : State) : Aside := { nodes := s.nodes, queryRefused := s.queryRefused, admin := s.admin }

section
variable {s t : State}

theorem nodes_eq_of_aside (h : s.aside = t.aside) : s.nodes = t.nodes := congrArg Aside.nodes h
theorem admin_eq_of_aside (h : s.aside = t.aside) : s.admin = t.admin := congrArg Aside.admin h

end

/-- What a command waits for is read off the admin unit. -/
theorem adminWait_congr {s t : State} (h : s.admin = t.admin) : adminWait s = adminWait t := by
  simp only [adminWait, h]

/-- No SLOT STOP waits: the end of a run ends no command (R162). -/
def NoStopWaits (s : State) : Prop := ∀ k, adminWait s ≠ some (.slotStop k)

theorem NoStopWaits.of_aside {s t : State} (h : NoStopWaits s) (e : t.aside = s.aside) : NoStopWaits t := by
  intro k
  rw [adminWait_congr (admin_eq_of_aside e)]
  exact h k

/-! ### Updates of other blocks -/

@[simp] theorem State.setHandOver_aside (s : State) (x : List CtxId) : (s.setHandOver x).aside = s.aside := rfl
@[simp] theorem State.setNotices_aside (s : State) (x : List Notice) : (s.setNotices x).aside = s.aside := rfl
@[simp] theorem State.setWindow_aside (s : State) (x : Window) : (s.setWindow x).aside = s.aside := rfl
@[simp] theorem State.setCtx_aside (s : State) (c : CtxId) (x : Context) : (s.setCtx c x).aside = s.aside := rfl
@[simp] theorem State.modCtx_aside (s : State) (c : CtxId) (f : Context → Context) : (s.modCtx c f).aside = s.aside := rfl
@[simp] theorem State.setStored_aside (s : State) (id : ListId) (x : StoredList) : (s.setStored id x).aside = s.aside := rfl
@[simp] theorem State.setSubRing_aside (s : State) (r : RingId) (x : SubRing) : (s.setSubRing r x).aside = s.aside := rfl
@[simp] theorem State.setCompRing_aside (s : State) (k : RingId) (x : CompRing) : (s.setCompRing k x).aside = s.aside := rfl
@[simp] theorem State.setCaptureRing_aside (s : State) (k : SlotId) (x : CaptureRing) :
    (s.setCaptureRing k x).aside = s.aside := rfl
@[simp] theorem State.setSlot_aside (s : State) (k : SlotId) (x : Slot) : (s.setSlot k x).aside = s.aside := rfl
@[simp] theorem State.modAttention_aside (s : State) (key : Key) (f : AttentionEntry → AttentionEntry) :
    (s.modAttention key f).aside = s.aside := rfl
@[simp] theorem notify_aside (subject : Subject) (body : NoticeBody) (s : State) :
    (notify subject body s).aside = s.aside := rfl
@[simp] theorem notifySlot_aside (k : SlotId) (reason : SlotReason) (s : State) :
    (notifySlot k reason s).aside = s.aside := rfl

/-! ### Records handed over -/

@[simp] theorem releaseReference_aside (id : ListId) (s : State) : (releaseReference id s).aside = s.aside := by
  unfold releaseReference
  split <;> simp

@[simp] theorem releaseList_aside (x : Context) (s : State) : (releaseList x s).aside = s.aside := by
  unfold releaseList
  split <;> simp

@[simp] theorem freeContext_aside (c : CtxId) (s : State) : (freeContext c s).aside = s.aside := by
  unfold freeContext
  dsimp only
  split <;> simp

/-- A job's record handed over: a ring that drops it frees the job's context, and ends no command (R131, R133). -/
@[simp] theorem handRecord_job_aside (k : RingId) (c : CtxId) (x : JobRecord) (s : State) :
    (handRecord k (.job c x) s).aside = s.aside := by
  unfold handRecord
  dsimp only
  split <;> simp [releaseSource]

@[simp] theorem handJob_aside (c : CtxId) (s : State) : (handJob c s).aside = s.aside := by
  unfold handJob
  split <;> simp

@[simp] theorem handNext_aside (s : State) (c : CtxId) : (handNext s c).aside = s.aside := by
  unfold handNext
  split <;> simp

@[simp] theorem handOverRecords_aside (s : State) : (handOverRecords s).aside = s.aside :=
  foldl_keeps (P := fun _ => True) (fun s c _ => handNext_aside s c) _ trivial

@[simp] theorem enterCompleting_aside (c : CtxId) (outcome : JobOutcome) (s : State) :
    (enterCompleting c outcome s).aside = s.aside := by
  simp [enterCompleting]

/-! ### The ends of internal runs -/

@[simp] theorem attentionRunEnds_aside (key : Key) (e : RunEnding) (s : State) :
    (attentionRunEnds key e s).aside = s.aside := by
  unfold attentionRunEnds enterPosting
  split <;> simp

@[simp] theorem returnToIdle_aside (k : SlotId) (s : State) : (returnToIdle k s).aside = s.aside := by
  simp [returnToIdle]

theorem finishSlotStop_aside (k : SlotId) {s : State} (h : NoStopWaits s) : (finishSlotStop k s).aside = s.aside := by
  have none : adminWait (returnToIdle k s) ≠ some (.slotStop k) := h.of_aside (returnToIdle_aside k s) k
  simp [finishSlotStop, none]

@[simp] theorem suspendSlot_aside (k : SlotId) (reason : SlotReason) (s : State) :
    (suspendSlot k reason s).aside = s.aside := by
  unfold suspendSlot
  dsimp only
  split <;> simp

theorem answerOffer_aside (k : SlotId) (answer : OfferAnswer) {s : State} (h : NoStopWaits s) :
    (answerOffer k answer s).aside = s.aside := by
  unfold answerOffer
  dsimp only
  split
  · exact finishSlotStop_aside k (h.of_aside (State.setSlot_aside s k _))
  · cases answer with
    | posted => simp
    | fault => simp
    | full => dsimp only; split <;> simp

theorem slotRunEnds_aside (k : SlotId) (e : RunEnding) {s : State} (h : NoStopWaits s) :
    (slotRunEnds k e s).aside = s.aside := by
  unfold slotRunEnds offerSnapshot
  split
  · rfl
  · dsimp only
    split
    · exact answerOffer_aside k _ (h.of_aside (State.setSlot_aside s k _))
    · simp

theorem endRun_aside (c : CtxId) {s : State} (h : NoStopWaits s) : (endRun c s).aside = s.aside := by
  unfold endRun
  dsimp only
  split
  · simp
  · rw [slotRunEnds_aside _ _ (h.of_aside (freeContext_aside c s)), freeContext_aside]
  · simp

theorem endJob_aside (c : CtxId) {s : State} (h : NoStopWaits s) : (endJob c s).aside = s.aside := by
  unfold endJob
  split
  · simp
  · exact endRun_aside c h

/-! ### Steps -/

@[simp] theorem pushClaim_aside (op : Operation) (s : State) : (pushClaim op s).aside = s.aside := by
  unfold pushClaim
  split <;> simp

@[simp] theorem claimOperation_aside (c : CtxId) (p : Step) (n : NodeId) (s : State) :
    (claimOperation c p n s).state.aside = s.aside := by
  unfold claimOperation
  dsimp only
  split <;> simp

@[simp] theorem beginOperation_aside (c : CtxId) (p : Step) (s : State) : (beginOperation c p s).state.aside = s.aside := by
  unfold beginOperation
  split
  · rfl
  · split
    · rfl
    · split
      · split
        · rfl
        · split
          · simp [beginStaging]
          · simp
      · simp

@[simp] theorem beginStep_aside (c : CtxId) (p : Step) (s : State) : (beginStep c p s).state.aside = s.aside := by
  unfold beginStep
  dsimp only
  split
  · simp
  · split
    · split <;> simp
    · simp

/-- Steps started one after another, from the step index to the first that waits, leave those blocks alone. -/
theorem runSteps_aside (fuel : Nat) (c : CtxId) {s : State} (h : NoStopWaits s) :
    (runSteps fuel c s).aside = s.aside := by
  induction fuel generalizing s with
  | zero => rfl
  | succ fuel ih =>
    unfold runSteps
    split
    · exact endJob_aside c h
    · rename_i p _
      have begun := beginStep_aside c p s
      split
      · rename_i t ht
        rwa [ht] at begun
      · rename_i e t ht
        rw [ht] at begun
        have recorded : (t.modCtx c (recordEnd p e)).aside = s.aside := begun
        dsimp only
        split
        · rw [endJob_aside c (h.of_aside recorded), recorded]
        · rw [ih (h.of_aside recorded), recorded]

@[simp] theorem endPending_aside (c : CtxId) (s : State) : (endPending c s).aside = s.aside := by
  simp [endPending]

theorem endStep_aside (c : CtxId) (e : StepEnd) {s : State} (h : NoStopWaits s) : (endStep c e s).aside = s.aside := by
  unfold endStep
  split
  · rfl
  · rename_i p _
    have recorded : (s.modCtx c fun x => recordEnd p e { x with staging := [] }).aside = s.aside := State.modCtx_aside s c _
    rw [← recorded]
    unfold afterStep
    split
    · simp
    · split
      · exact endJob_aside c (h.of_aside recorded)
      · exact runSteps_aside _ c (h.of_aside recorded)

/-- A fault that reaches a context leaves those blocks alone. -/
theorem deliver_fault_aside (c : CtxId) (cause : Cause) {s : State} (h : NoStopWaits s) :
    (deliver c (.fault cause) s).aside = s.aside := by
  unfold deliver
  split
  · exact endStep_aside c _ (h.of_aside (State.modCtx_aside s c _))
  · rfl

end Sys2Proof.Machine
end

section
/-! SUPPORT. A CENSUS or a NODE RESET answered: what the good return leaves before its owner is told, and how the status ends
the operation. -/

namespace Sys2Proof.Machine

/-! ### The pair and the silence count -/

/-- The pair settled changes one node's record and the window (R43, R44). -/
theorem settlePair_eq (kind : FrameKind) (n : NodeId) (t : Tag) (status : ReplyStatus) (s : State) :
    ∃ x w, settlePair kind n t status s = (s.setNode n x).setWindow w := by
  unfold settlePair
  cases recorded kind status with
  | true =>
    by_cases hd : kind = .nodeReset ∧ status = .done
    · rw [if_pos hd]
      exact ⟨_, _, rfl⟩
    · rw [if_neg hd]
      exact ⟨_, _, rfl⟩
  | false =>
    have same : (s.setNode n (s.node n)).setWindow s.window = s := by
      rw [State.setNode_node]
      rfl
    by_cases hd : kind = .nodeReset ∧ status = .done
    · rw [if_pos hd]
      exact ⟨s.node n, _, by rw [State.setNode_node]; rfl⟩
    · rw [if_neg hd]
      exact ⟨s.node n, s.window, same.symm⟩

/-- A BUSY settles no pair. -/
theorem settlePair_busy {kind : FrameKind} (hk : kind = .census ∨ kind = .nodeReset) (n : NodeId) (t : Tag) (s : State) :
    settlePair kind n t .busy s = s := by
  rcases hk with rfl | rfl <;> rfl

/-- A CENSUS is not counted, and a return that is not UNTOUCHED changes the node's record alone (R33). -/
theorem countKind_eq {kind : FrameKind} {status : ReplyStatus} (h : kind = .census ∨ status ≠ .untouched) (n : NodeId)
    (s : State) : ∃ x, countKind kind n status s = s.setNode n x := by
  by_cases hk : kind = .census
  · exact ⟨s.node n, by rw [State.setNode_node, countKind, if_pos hk]⟩
  · have touched : (status == .untouched) = false := by simpa using h.resolve_left hk
    rw [countKind, if_neg hk, touched, countReturn_touched]
    exact ⟨_, rfl⟩

/-- What a good return leaves before its owner is told, where it does not bring a node to SILENT: the loop controller's list
and count, one node's record, and the window (R33, R43). -/
theorem tagReleased_eq {kind : FrameKind} {f : Frame} (h : kind = .census ∨ f.status ≠ .untouched) {tr : Transaction}
    {n : NodeId} (hn : tr.operation.node = n) (s : State) (r : TransitRecord) (t : Tag) :
    ∃ x w, tagReleased s kind f r t tr =
      ((s.setLoop { s.loop with transit := s.loop.transit.erase r, lost := 0 }).setNode n x).setWindow w := by
  subst hn
  let v := s.setLoop { s.loop with transit := s.loop.transit.erase r, lost := 0 }
  obtain ⟨x₁, w₁, pair⟩ := settlePair_eq kind tr.operation.node t f.status v
  obtain ⟨x₂, count⟩ := countKind_eq h tr.operation.node (settlePair kind tr.operation.node t f.status v)
  refine ⟨x₂, { w₁ with tags := vset w₁.tags t none }, ?_⟩
  show (countKind kind tr.operation.node f.status (settlePair kind tr.operation.node t f.status v)).setTag t none = _
  rw [count, pair, ← State.setNode_setNode v tr.operation.node x₁ x₂]
  rfl

/-! ### A node that leaves PRESENT ends no command -/

@[simp] theorem withdrawQueued_admin (p : Operation → Bool) (s : State) : (withdrawQueued p s).admin = s.admin := rfl
@[simp] theorem withdraw_aside (o : Owner) (s : State) : (withdraw o s).aside = s.aside := rfl
@[simp] theorem withdraw_admin (o : Owner) (s : State) : (withdraw o s).admin = s.admin := rfl
@[simp] theorem holdOver_admin (n : NodeId) (d : DeferId) (b : Bool) (s : State) : (holdOver n d b s).admin = s.admin := rfl

@[simp] theorem freeEntry_admin (d : DeferId) (s : State) : (freeEntry d s).admin = s.admin := by
  unfold freeEntry
  dsimp only
  split <;> rfl

@[simp] theorem entryNodeLeft_admin (n : NodeId) (s : State) (d : DeferId) : (entryNodeLeft n s d).admin = s.admin := by
  unfold entryNodeLeft
  split
  · split <;> simp
  · split <;> simp
  · rfl

@[simp] theorem nodeLeft_admin (n : NodeId) (s : State) : (nodeLeft n s).admin = s.admin := by
  rw [nodeLeft, withdrawQueued_admin]
  exact foldl_keeps (g := State.admin) (P := fun _ => True) (fun s d _ => entryNodeLeft_admin n s d) _ trivial

@[simp] theorem countReturn_admin (n : NodeId) (untouched : Bool) (s : State) :
    (countReturn n untouched s).admin = s.admin := by
  unfold countReturn
  dsimp only
  split
  · rfl
  · split
    · split
      · rw [nodeLeft_admin]
        rfl
      · rfl
    · rfl

/-- A good return ends no command before its owner is told. -/
theorem tagReleased_admin (s : State) (kind : FrameKind) (f : Frame) (r : TransitRecord) (t : Tag) (tr : Transaction) :
    (tagReleased s kind f r t tr).admin = s.admin := by
  let v := s.setLoop { s.loop with transit := s.loop.transit.erase r, lost := 0 }
  obtain ⟨x, w, pair⟩ := settlePair_eq kind tr.operation.node t f.status v
  show (countKind kind tr.operation.node f.status (settlePair kind tr.operation.node t f.status v)).admin = _
  rw [pair, countKind]
  split
  · rfl
  · rw [countReturn_admin]
    rfl

/-! ### How the status ends the operation (R53, R57, R59, R63) -/

/-- The state in which a good return finds its owner's tag still held: the pair and the silence count are settled. -/
def settledReturn (s : State) (kind : FrameKind) (f : Frame) (r : TransitRecord) (t : Tag) (tr : Transaction) : State :=
  countKind kind tr.operation.node f.status (settlePair kind tr.operation.node t f.status
    (s.setLoop { s.loop with transit := s.loop.transit.erase r, lost := 0 }))

theorem tagReleased_settled (s : State) (kind : FrameKind) (f : Frame) (r : TransitRecord) (t : Tag) (tr : Transaction) :
    tagReleased s kind f r t tr = (settledReturn s kind f r t tr).setTag t none := rfl

/-- A transaction without a reservation ends: its tag is FREE, and its owner is told. -/
theorem endTransaction_unreserved {tr : Transaction} (h : tr.reservation = none) (t : Tag) (e : Ending) (s : State) :
    endTransaction t tr e s =
      ownerEnds tr.operation ((tr.frame.data.getD 0 0).setWidth 8) tr.withdrawn e (s.setTag t none) := by
  simp [endTransaction, h, dropReservation]

theorem busyReturn_withdrawn {tr : Transaction} (h : tr.withdrawn = true) (t : Tag) (s : State) :
    busyReturn t tr s = endTransaction t tr .notPerformed s := by
  simp [busyReturn, h]

theorem busyReturn_stopping {tr : Transaction} {s : State} (h : tr.withdrawn = false) (hs : s.loop.state = .stopping)
    (t : Tag) : busyReturn t tr s = endTransaction t tr .loopDown s := by
  simp [busyReturn, h, hs]

theorem busyReturn_limit {tr : Transaction} {s : State} (h : tr.withdrawn = false) (hs : s.loop.state ≠ .stopping)
    (hb : s.params.busyLimit ≤ tr.operation.busy + 1) (t : Tag) :
    busyReturn t tr s = endTransaction t tr .busyLimit s := by
  simp [busyReturn, h, hs, hb]

/-- Any other BUSY of an operation without a reservation that is no context's puts it into BACKOFF (R57). -/
theorem busyReturn_backoff {tr : Transaction} {s : State} (ho : ∀ c, tr.operation.owner ≠ .context c)
    (hr : tr.reservation = none) (h : tr.withdrawn = false) (hs : s.loop.state ≠ .stopping)
    (hb : ¬ s.params.busyLimit ≤ tr.operation.busy + 1) (t : Tag) :
    busyReturn t tr s = (s.setTag t none).setWindow { (s.setTag t none).window with
      backoff := (s.setTag t none).window.backoff ++
        [({ tr.operation with busy := tr.operation.busy + 1 }, s.timebase + s.params.busyBackoff)] } := by
  cases howner : tr.operation.owner with
  | context c => exact absurd howner (ho c)
  | query n | mask n | collect n | cancel d | census n | nodeReset n =>
    simp [busyReturn, h, hs, hb, hr, dropReservation, howner]

section
variable {s : State} {bytes : List Byte} {f : Frame} {r : TransitRecord} {t : Tag} {tr : Transaction} {kind : FrameKind}
  (h : ReturnReaches s bytes f r t tr) (hk : kindOf tr.operation.owner = kind) (hs : kind = .census ∨ kind = .nodeReset)
include h hk hs

/-- DONE, REFUSED and UNTOUCHED are the operation's ending. -/
theorem exec_answered_final (hr : tr.reservation = none)
    (hf : f.status = .done ∨ f.status = .refused ∨ f.status = .untouched) :
    exec (.frameReturn bytes) s = .next (react (ownerEnds tr.operation ((tr.frame.data.getD 0 0).setWidth 8) tr.withdrawn
      (.good f) (tagReleased s kind f r t tr))) := by
  have sent : sentKind tr = kind := by simp [sentKind, h.own, hk]
  have possible (v : State) : impossibleReply v tr f = false := by
    rcases hf with hf | hf | hf <;> rcases hs with hs | hs <;> simp [impossibleReply, hf, sent, hs]
  have not_busy : f.status ≠ .busy := by rcases hf with hf | hf | hf <;> simp [hf]
  have final (v : State) : finalReturn t tr f v = endTransaction t tr (.good f) v := by simp [finalReturn, hr]
  rw [exec_frameReturn_reaches h, tagReleased_settled, ← endTransaction_unreserved hr]
  simp [goodReturn, possible, sent, h.own, not_busy, final, settledReturn]

variable (hf : f.status = .busy)
include hf

/-- BUSY is taken behind the silence count. -/
theorem exec_answered_busy :
    exec (.frameReturn bytes) s = .next (react (busyReturn t tr (settledReturn s kind f r t tr))) := by
  have sent : sentKind tr = kind := by simp [sentKind, h.own, hk]
  have possible (v : State) : impossibleReply v tr f = false := by
    rcases hs with hs | hs <;> simp [impossibleReply, hf, sent, hs]
  have not_collect : kind ≠ .collect := by rcases hs with hs | hs <;> simp [hs]
  rw [exec_frameReturn_reaches h]
  simp [goodReturn, possible, sent, h.own, hf, not_collect, settledReturn]

omit h hk in
/-- A BUSY's silence count leaves the loop state, the limit, the backoff time and the timebase. -/
theorem settledReturn_busy_keeps :
    (settledReturn s kind f r t tr).loop.state = s.loop.state ∧ (settledReturn s kind f r t tr).params = s.params ∧
      (settledReturn s kind f r t tr).timebase = s.timebase := by
  obtain ⟨x, count⟩ := countKind_eq (kind := kind) (status := f.status) (.inr (by simp [hf])) tr.operation.node
    (settlePair kind tr.operation.node t f.status (s.setLoop { s.loop with transit := s.loop.transit.erase r, lost := 0 }))
  rw [settledReturn, count, hf, settlePair_busy hs]
  exact ⟨rfl, rfl, rfl⟩

variable (hr : tr.reservation = none)
include hr

/-- BUSY of a withdrawn operation is "not performed" (R59). -/
theorem exec_answered_busy_withdrawn (hw : tr.withdrawn = true) :
    exec (.frameReturn bytes) s = .next (react (ownerEnds tr.operation ((tr.frame.data.getD 0 0).setWidth 8) tr.withdrawn
      .notPerformed (tagReleased s kind f r t tr))) := by
  rw [exec_answered_busy h hk hs hf, busyReturn_withdrawn hw, endTransaction_unreserved hr, tagReleased_settled]

variable (hw : tr.withdrawn = false)
include hw

/-- BUSY in STOPPING ends LOOP_DOWN (R63). -/
theorem exec_answered_busy_stopping (hl : s.loop.state = .stopping) :
    exec (.frameReturn bytes) s = .next (react (ownerEnds tr.operation ((tr.frame.data.getD 0 0).setWidth 8) tr.withdrawn
      .loopDown (tagReleased s kind f r t tr))) := by
  obtain ⟨loop, -, -⟩ := settledReturn_busy_keeps (s := s) (r := r) (t := t) (tr := tr) hs hf
  rw [exec_answered_busy h hk hs hf, busyReturn_stopping hw (by rwa [loop]), endTransaction_unreserved hr,
    tagReleased_settled]

variable (hl : s.loop.state ≠ .stopping)
include hl

/-- BUSY at the limit ends the operation (R57). -/
theorem exec_answered_busy_limit (hb : s.params.busyLimit ≤ tr.operation.busy + 1) :
    exec (.frameReturn bytes) s = .next (react (ownerEnds tr.operation ((tr.frame.data.getD 0 0).setWidth 8) tr.withdrawn
      .busyLimit (tagReleased s kind f r t tr))) := by
  obtain ⟨loop, params, -⟩ := settledReturn_busy_keeps (s := s) (r := r) (t := t) (tr := tr) hs hf
  rw [exec_answered_busy h hk hs hf, busyReturn_limit hw (by rwa [loop]) (by rwa [params]), endTransaction_unreserved hr,
    tagReleased_settled]

/-- BUSY below the limit puts the operation into BACKOFF (R57). -/
theorem exec_answered_busy_backoff (hb : ¬ s.params.busyLimit ≤ tr.operation.busy + 1) :
    exec (.frameReturn bytes) s = .next (react ((tagReleased s kind f r t tr).setWindow
      { (tagReleased s kind f r t tr).window with
        backoff := (tagReleased s kind f r t tr).window.backoff ++
          [({ tr.operation with busy := tr.operation.busy + 1 }, s.timebase + s.params.busyBackoff)] })) := by
  obtain ⟨loop, params, timebase⟩ := settledReturn_busy_keeps (s := s) (r := r) (t := t) (tr := tr) hs hf
  have no_context : ∀ c, tr.operation.owner ≠ .context c := by
    intro c hc
    rw [hc] at hk
    rcases hs with hs | hs <;> simp [← hk, kindOf] at hs
  rw [exec_answered_busy h hk hs hf, busyReturn_backoff no_context hr hw (by rwa [loop]) (by rwa [params]),
    tagReleased_settled, params, timebase]

end

end Sys2Proof.Machine
end

section
/-! SUPPORT. What a census finds at an address, and what the news of it comes to. -/

namespace Sys2Proof.Machine

/-! ### The news of a finding (R26, R28, R30) -/

/-- The news of a record that has left PRESENT (R26). -/
def leftPresent (n : NodeId) (before : NodeState) (s : State) : State :=
  if before = .present ∧ (s.node n).state ≠ .present then nodeLeft n s else s

/-- A finding taken into the record, with its notice and the news of its leaving PRESENT. -/
def censusTold (n : NodeId) (before : NodeState) (y : NodeRecord) (reason : NodeReason) (s : State) : State :=
  leftPresent n before (notify (.node n) (.node y.state reason 0) (s.setNode n y))

theorem censusTold_eq (n : NodeId) (before : NodeState) (y : NodeRecord) (reason : NodeReason) (s : State) :
    censusTold n before y reason s = leftPresent n before (notifyNode n reason 0 (s.setNode n y)) := by
  rw [notifyNode, State.setNode_node_self]
  rfl

/-- The news of a finding: a different serial number is told as such, whatever the states (R30), else a changed state (R28);
a state found again is no news. -/
theorem censusNews_cases {serial : Bool} {changed : Prop} (h : serial = true ↔ changed) (n : NodeId) (before : NodeState)
    (y : NodeRecord) (s : State) :
    (changed → censusNews n before serial (s.setNode n y) = censusTold n before y .identityChanged s) ∧
    (¬ changed → before ≠ y.state → censusNews n before serial (s.setNode n y) = censusTold n before y .census s) ∧
    (¬ changed → before = y.state → censusNews n before serial (s.setNode n y) = s.setNode n y) := by
  rw [← h]
  refine ⟨fun hc => ?_, fun hc hm => ?_, fun hc hm => ?_⟩
  · rw [hc, censusTold_eq]
    rfl
  · have moved : before ≠ ((s.setNode n y).node n).state := by rwa [State.setNode_node_self]
    rw [Bool.eq_false_iff.mpr hc, censusTold_eq]
    simp only [censusNews, if_pos moved]
    rfl
  · rw [Bool.eq_false_iff.mpr hc]
    subst hm
    simp [censusNews]

theorem censusNews_moved {before : NodeState} {y : NodeRecord} (h : before ≠ y.state) (n : NodeId) (s : State) :
    censusNews n before false (s.setNode n y) = censusTold n before y .census s :=
  (censusNews_cases (changed := False) (by simp) n before y s).2.1 not_false h

theorem censusNews_same {before : NodeState} {y : NodeRecord} (h : before = y.state) (n : NodeId) (s : State) :
    censusNews n before false (s.setNode n y) = s.setNode n y :=
  (censusNews_cases (changed := False) (by simp) n before y s).2.2 not_false h

/-! ### The findings (R28, R30, R168) -/

theorem identityChanged_iff (x : NodeRecord) (i : Identity) :
    identityChanged x i = true ↔ ∃ old, x.identity = some old ∧ old.serial ≠ i.serial := by
  cases h : x.identity <;> simp [identityChanged, h]

theorem Identity.wellFormed_iff (i : Identity) :
    i.wellFormed = true ↔ (1 ≤ i.points ∧ i.points ≤ 64) ∧ i.sources ≤ 8 ∧ i.rates ≠ 0 := by
  simp [Identity.wellFormed, and_assoc]

/-- The flag of one node cleared or set (R168). -/
theorem setBit_queryFlag (q : BitVec 30) (n m : NodeId) :
    (setBit q n.val false).getLsbD m.val = (q.getLsbD m.val && !(m == n)) := by
  rw [setBit_getLsbD _ _ _ _ n.isLt]
  by_cases h : m = n
  · simp [h]
  · simp [h, Fin.val_inj]

/-- A node of the current rate is PRESENT, and its query-refused flag is clear. -/
theorem censusFound_present {s : State} {n : NodeId} {i : Identity} (h : i.rates.getLsbD s.loop.rate.code = true) :
    censusFound n i s = censusNews n (s.node n).state (identityChanged (s.node n) i)
      (({ s with queryRefused := setBit s.queryRefused n.val false }).setNode n
        { s.node n with state := .present, identity := some i, untouched := 0, dirty := true }) := by
  have found : foundRecord (s.node n) i s.loop.rate =
      { s.node n with state := .present, identity := some i, untouched := 0, dirty := true } := if_pos h
  rw [censusFound, found, State.setNode_node_self, if_pos rfl]
  rfl

/-- A node that lacks the current rate is INCOMPATIBLE. -/
theorem censusFound_incompatible {s : State} {n : NodeId} {i : Identity} (h : i.rates.getLsbD s.loop.rate.code = false) :
    censusFound n i s = censusNews n (s.node n).state (identityChanged (s.node n) i)
      (s.setNode n { s.node n with state := .incompatible, identity := some i }) := by
  have found : foundRecord (s.node n) i s.loop.rate = { s.node n with state := .incompatible, identity := some i } :=
    if_neg (by simp [Identity.supports, h])
  rw [censusFound, found, State.setNode_node_self, if_neg (by simp)]

/-- An address that returned UNTOUCHED becomes ABSENT. -/
theorem censusEmpty_moved {s : State} {n : NodeId} (h : (s.node n).state ≠ .absent) :
    censusEmpty n s = censusTold n (s.node n).state { s.node n with state := .absent } .census s :=
  censusNews_moved h n s

/-- An ABSENT address that returned UNTOUCHED is no news. -/
theorem censusEmpty_same {s : State} {n : NodeId} (h : (s.node n).state = .absent) : censusEmpty n s = s := by
  have same : ({ s.node n with state := .absent } : NodeRecord) = s.node n := by rw [← h]
  refine (censusNews_same h n s).trans ?_
  rw [same, State.setNode_node]

/-- A failed CENSUS of a PRESENT node makes it SILENT (R29). -/
theorem censusFailed_told {s : State} {n : NodeId} (h : (s.node n).state = .present) :
    censusFailed n s = censusTold n (s.node n).state { s.node n with state := .silent } .census s := by
  simp only [censusFailed, h]
  exact censusNews_moved (by simp) n s

/-! ### The ending of a CENSUS while a census is under way -/

section
variable {s : State} (hc : s.nodes.census ≠ none) {n : NodeId} {f : Frame}
include hc

theorem censusEnds_found (hf : f.status = .done) (hi : (parseIdentity f.data).wellFormed = true) :
    censusEnds n (.good f) s = censusStep (censusFound n (parseIdentity f.data) s) := by
  simp [censusEnds, hc, hf, hi]

theorem censusEnds_untouched (hf : f.status = .untouched) :
    censusEnds n (.good f) s = censusStep (censusEmpty n s) := by
  simp [censusEnds, hc, hf]

/-- REFUSED, and DONE with a record that is not well formed, fail (R29). -/
theorem censusEnds_unusable (hf : f.status = .refused ∨ f.status = .done ∧ ¬ (parseIdentity f.data).wellFormed = true) :
    censusEnds n (.good f) s = censusStep (censusFailed n s) := by
  rcases hf with hf | ⟨hf, hi⟩
  · simp [censusEnds, hc, hf]
  · simp [censusEnds, hc, hf, hi]

end

end Sys2Proof.Machine
end

section
/-! SUPPORT. The census's next step and its report: the number of PRESENT records, the agreed rate, and what the loop
controller does with it. -/

namespace Sys2Proof.Machine

/-! ### The next step (R27, R31) -/

theorem claimNextCensus_all {s : State} {run : CensusRun} (h : s.nodes.census = some run) (hl : 30 ≤ run.claimed) :
    claimNextCensus s = s := by
  simp only [claimNextCensus, h]
  exact dif_neg (Nat.not_lt.mpr hl)

/-- A census transaction's end that is not the thirtieth counts, and the next address is claimed. -/
theorem censusStep_claims {s : State} {run : CensusRun} (h : s.nodes.census = some run) {m : NodeId}
    (hm : m.val = run.claimed) (he : run.ended + 1 ≠ 30) :
    censusStep s =
      (s.setNodes { s.nodes with census := some { run with ended := run.ended + 1, claimed := run.claimed + 1 } }).addClaims
        [{ owner := .census m, node := m }] := by
  have below : run.claimed < 30 := hm ▸ m.isLt
  have node_eq : (⟨run.claimed, below⟩ : NodeId) = m := Fin.ext hm.symm
  simp only [censusStep, h, if_neg he]
  rw [claimNextCensus_next (run := { run with ended := run.ended + 1 }) rfl below, node_eq]
  rfl

/-- With every address claimed, it counts alone. -/
theorem censusStep_counts {s : State} {run : CensusRun} (h : s.nodes.census = some run) (hl : 30 ≤ run.claimed)
    (he : run.ended + 1 ≠ 30) :
    censusStep s = s.setNodes { s.nodes with census := some { run with ended := run.ended + 1 } } := by
  simp only [censusStep, h, if_neg he]
  exact claimNextCensus_all (run := { run with ended := run.ended + 1 }) rfl hl

/-- The thirtieth ends the census (R31). -/
theorem censusStep_ends {s : State} {run : CensusRun} (h : s.nodes.census = some run) (hl : 30 ≤ run.claimed)
    (he : run.ended + 1 = 30) : censusStep s = censusDone run.byCommand s := by
  simp only [censusStep, h, if_pos he]
  rw [claimNextCensus_all (run := { run with ended := run.ended + 1 }) rfl hl]
  rfl

/-! ### The number of PRESENT records -/

/-- The node records in the order of their addresses. -/
theorem records_toList (s : State) : s.nodes.records.toList = (List.finRange 30).map s.node := by
  apply List.ext_getElem
  · simp
  · intro i h₁ h₂
    simp [State.node, vget]

theorem presentCount_eq (s : State) :
    presentCount s = ((List.finRange 30).filter fun n => decide ((s.node n).state = .present)).length := by
  rw [presentCount, records_toList, List.countP_map, List.countP_eq_length_filter]
  congr 1

/-! ### The agreed rate (R31) -/

/-- Every PRESENT record supports a rate. -/
def SupportedByAll (s : State) (c : RateCode) : Prop :=
  ∀ n, (s.node n).state = .present → ∃ i, (s.node n).identity = some i ∧ i.rates.getLsbD c.code = true

/-- The test by which the node unit finds it. -/
def supportedByAll (s : State) (c : RateCode) : Bool :=
  (s.nodes.records.toList.filter fun r => r.state == .present).all fun r =>
    (r.identity.map fun i => i.supports c).getD false

theorem supportedByAll_iff (s : State) (c : RateCode) : supportedByAll s c = true ↔ SupportedByAll s c := by
  have supports (x : NodeRecord) : (x.identity.map fun i => i.supports c).getD false = true ↔
      ∃ i, x.identity = some i ∧ i.rates.getLsbD c.code = true := by
    cases x.identity <;> simp [Identity.supports]
  rw [supportedByAll, records_toList, List.all_eq_true]
  refine ⟨fun h n hn => ?_, fun h x hx => ?_⟩
  · exact (supports _).mp (h _ (List.mem_filter.mpr ⟨List.mem_map.mpr ⟨n, List.mem_finRange n, rfl⟩, beq_iff_eq.mpr hn⟩))
  · obtain ⟨mem, present⟩ := List.mem_filter.mp hx
    obtain ⟨n, -, rfl⟩ := List.mem_map.mp mem
    exact (supports _).mpr (h n (beq_iff_eq.mp present))

/-- With no PRESENT record the rate stays. -/
theorem agreedRate_none {s : State} (h : ∀ n, (s.node n).state ≠ .present) : agreedRate s = s.loop.rate := by
  simp [agreedRate, records_toList, h]

/-- With a PRESENT record the codes are tried from the highest down. -/
theorem agreedRate_some {s : State} (h : ∃ n, (s.node n).state = .present) :
    agreedRate s =
      if supportedByAll s .r3 then .r3
      else if supportedByAll s .r2 then .r2
      else if supportedByAll s .r1 then .r1
      else s.loop.rate := by
  have some_present : (s.nodes.records.toList.filter fun r => r.state == .present).isEmpty = false := by
    simpa [records_toList] using h
  rw [agreedRate, some_present]
  rfl

/-- With a PRESENT record, the agreed rate is the highest that each supports. -/
theorem agreedRate_highest {s : State} (h : ∃ n, (s.node n).state = .present) {c : RateCode} (hc : SupportedByAll s c) :
    SupportedByAll s (agreedRate s) ∧ c.code ≤ (agreedRate s).code := by
  rw [agreedRate_some h]
  rw [← supportedByAll_iff] at hc
  cases h₃ : supportedByAll s .r3 with
  | true => exact ⟨(supportedByAll_iff s _).mp h₃, show c.code ≤ 3 by cases c <;> decide⟩
  | false =>
    cases h₂ : supportedByAll s .r2 with
    | true =>
      refine ⟨(supportedByAll_iff s _).mp h₂, show c.code ≤ 2 from ?_⟩
      cases c with
      | r1 | r2 => decide
      | r3 => simp [h₃] at hc
    | false =>
      cases c with
      | r1 =>
        rw [hc]
        exact ⟨(supportedByAll_iff s _).mp hc, Nat.le_refl _⟩
      | r2 => simp [h₂] at hc
      | r3 => simp [h₃] at hc

/-! ### RUNNING, or the rate switch (R20, R152, R184) -/

/-- A slot that waits for the loop is ACTIVE again, with its notice. -/
theorem slotLoopRunning_eq (k : SlotId) (s : State) :
    slotLoopRunning k s =
      if (s.slot k).state = .waitingLoop then
        notify (.slot k) (.slot .active .loopRunning (s.slot k).sequence (s.slot k).missed)
          (s.setSlot k { s.slot k with state := .active })
      else s := by
  simp [slotLoopRunning, notifySlot]

theorem slotLoopRunning_bus (s : State) (k : SlotId) : (slotLoopRunning k s).bus = s.bus := by
  rw [slotLoopRunning_eq]
  split <;> rfl

theorem slotLoopRunning_aside (s : State) (k : SlotId) : (slotLoopRunning k s).aside = s.aside := by
  rw [slotLoopRunning_eq]
  split <;> rfl

/-- The loop RUNNING with its notice, and every waiting slot ACTIVE with its own. -/
def loopUp (s : State) : State :=
  (List.finRange 8).foldl (fun v k => slotLoopRunning k v)
    (notify .loop (.loop .running .running s.loop.rate) (s.setLoop { s.loop with state := .running }))

/-- The entry to RUNNING: a LOOP START that waits ends with what it found. -/
theorem enterRunning_eq (s : State) :
    enterRunning s =
      if adminWait s = some .loopStart then endAdmin .ok (some (presentCount s + 256 * s.loop.rate.code)) (loopUp s)
      else loopUp s := by
  have bus : (loopUp s).bus = (s.setLoop { s.loop with state := .running }).bus :=
    foldl_keeps (P := fun _ => True) (fun v k _ => slotLoopRunning_bus v k) _ trivial
  have aside : (loopUp s).aside = s.aside :=
    foldl_keeps (P := fun _ => True) (fun v k _ => slotLoopRunning_aside v k) _ trivial
  have wait : adminWait (loopUp s) = adminWait s := adminWait_congr (admin_eq_of_aside aside)
  have detail : runningDetail (loopUp s) = presentCount s + 256 * s.loop.rate.code := by
    rw [runningDetail, loop_eq_of_bus bus, presentCount, nodes_eq_of_aside aside]
    rfl
  rw [← wait, ← detail]
  rfl

end Sys2Proof.Machine
end

section
/-! SUPPORT. A NODE RESET returned DONE: what it leaves of the node's record, the deferral table and the flags. -/

namespace Sys2Proof.Machine

/-! ### The deferral table, entry by entry (R78) -/

theorem DeferEntry.keptAt_free : DeferEntry.free.keptAt = none := rfl

theorem freeEntry_ctx (d : DeferId) (s : State) (c : CtxId) : (freeEntry d s).ctx c = s.ctx c := by
  unfold freeEntry
  dsimp only
  split <;> rfl

/-- A WAITING entry of the node is freed, and its owner's step faults NODE_RESET if it has one running. -/
theorem entryNodeReset_waiting {s : State} {d : DeferId} {c : CtxId} {n : NodeId} {kind : CommandOp} {count : Nat}
    {due : Instant} (h : s.entry d = .waiting c n kind count due) :
    entryNodeReset n s d =
      if (s.ctx c).state.hasOperation then endStep c (.fault .nodeReset) (outcomeTaken c (freeEntry d s))
      else freeEntry d s := by
  simp only [entryNodeReset, h, if_true]
  cases ho : (s.ctx c).state.hasOperation with
  | true => exact deliver_fault _ (by rwa [freeEntry_ctx])
  | false => exact deliver_unreached _ (by rwa [freeEntry_ctx])

theorem entryNodeReset_orphaned {s : State} {d : DeferId} {n : NodeId} {kind : CommandOp} {count : Nat}
    (h : s.entry d = .orphaned n kind count) : entryNodeReset n s d = freeEntry d s := by
  simp [entryNodeReset, h]

theorem entryNodeReset_cancelling {s : State} {d : DeferId} {n : NodeId} {kind : CommandOp} {count : Nat}
    (h : s.entry d = .cancelling n kind count) : entryNodeReset n s d = withdraw (.cancel d) (freeEntry d s) := by
  simp [entryNodeReset, h]

/-- The operations a node keeps are those of WAITING, ORPHANED and CANCELLING entries (R39). -/
theorem DeferEntry.keptAt_iff (e : DeferEntry) (n : NodeId) :
    e.keptAt = some n ↔ (∃ c kind count due, e = .waiting c n kind count due) ∨
      ∃ kind count, e = .orphaned n kind count ∨ e = .cancelling n kind count := by
  cases e <;> simp [DeferEntry.keptAt]

/-- An entry whose operation the node does not keep is left as it is. -/
theorem entryNodeReset_other {s : State} {d : DeferId} {n : NodeId} (h : (s.entry d).keptAt ≠ some n) :
    entryNodeReset n s d = s := by
  unfold entryNodeReset
  cases he : s.entry d with
  | free | reserved c m kind count early => rfl
  | waiting c m kind count due | orphaned m kind count | cancelling m kind count =>
    have other : m ≠ n := by simpa [he, DeferEntry.keptAt] using h
    simp [other]

/-- An entry with no owner to tell is freed, a CANCEL of it withdrawn. -/
theorem entryNodeReset_unowned {s : State} {d : DeferId} {n : NodeId} (h : (s.entry d).keptAt = some n)
    (hw : ∀ c kind count due, s.entry d ≠ .waiting c n kind count due) :
    entryNodeReset n s d = freeEntry d s ∨ entryNodeReset n s d = withdraw (.cancel d) (freeEntry d s) := by
  rcases (DeferEntry.keptAt_iff _ n).mp h with ⟨c, kind, count, due, he⟩ | ⟨kind, count, he | he⟩
  · exact absurd he (hw c kind count due)
  · exact .inl (entryNodeReset_orphaned he)
  · exact .inr (entryNodeReset_cancelling he)

/-! ### What every entry's freeing keeps, owners that fault included -/

/-- The command in progress, the query-refused flags, and the nodes' states. -/
def State.resetKeeps (s : State) : AdminUnit × BitVec 30 × (NodeId → NodeState) :=
  (s.admin, s.queryRefused, fun n => (s.node n).state)

theorem resetKeeps_of_aside {s t : State} (h : s.aside = t.aside) : s.resetKeeps = t.resetKeeps :=
  congrArg (fun a : Aside => (a.admin, a.queryRefused, fun n => (vget a.nodes.records n).state)) h

theorem resetKeeps_eq_iff (s t : State) :
    s.resetKeeps = t.resetKeeps ↔
      s.admin = t.admin ∧ s.queryRefused = t.queryRefused ∧ ∀ n, (s.node n).state = (t.node n).state := by
  simp [State.resetKeeps, funext_iff]

theorem setNode_resetKeeps {s : State} {n : NodeId} {x : NodeRecord} (h : x.state = (s.node n).state) :
    (s.setNode n x).resetKeeps = s.resetKeeps := by
  refine (resetKeeps_eq_iff _ _).mpr ⟨rfl, rfl, fun m => ?_⟩
  by_cases hm : n = m
  · subst hm
    rw [State.setNode_node_self, h]
  · rw [State.setNode_node_ne _ _ _ _ hm]

theorem freeEntry_resetKeeps (d : DeferId) (s : State) : (freeEntry d s).resetKeeps = s.resetKeeps := by
  cases h : (s.entry d).keptAt with
  | none =>
    rw [freeEntry_unkept h]
    rfl
  | some n =>
    rw [freeEntry_kept h]
    exact setNode_resetKeeps (s := s.setEntry d .free) rfl

theorem entryNodeReset_resetKeeps (n : NodeId) (d : DeferId) {s : State} (h : NoStopWaits s) :
    (entryNodeReset n s d).resetKeeps = s.resetKeeps := by
  have freed := freeEntry_resetKeeps d s
  have none_waits : NoStopWaits (freeEntry d s) := fun k => by
    rw [adminWait_congr (freeEntry_admin d s)]
    exact h k
  by_cases hk : (s.entry d).keptAt = some n
  · rcases (DeferEntry.keptAt_iff _ n).mp hk with ⟨c, kind, count, due, he⟩ | ⟨kind, count, he | he⟩
    · simp only [entryNodeReset, he, if_true]
      rw [resetKeeps_of_aside (deliver_fault_aside c .nodeReset none_waits), freed]
    · rw [entryNodeReset_orphaned he, freed]
    · rw [entryNodeReset_cancelling he, resetKeeps_of_aside (withdraw_aside _ _), freed]
  · rw [entryNodeReset_other hk]

/-! ### What it comes to without a WAITING entry of the node -/

/-- From `s` to `t` the entries of a list that the node keeps are FREE, and nothing else of the table and the nodes has
changed but the node's count of them. -/
structure FreedAt (n : NodeId) (l : List DeferId) (s t : State) : Prop where
  heldOver : t.deferral.heldOver = s.deferral.heldOver
  others : ∀ m, m ≠ n → t.node m = s.node m
  own : { t.node n with outstanding := 0 } = { s.node n with outstanding := 0 }
  entry : ∀ d, t.entry d = if d ∈ l ∧ (s.entry d).keptAt = some n then .free else s.entry d

theorem FreedAt.refl (n : NodeId) (s : State) : FreedAt n [] s s where
  heldOver := rfl
  others _ _ := rfl
  own := rfl
  entry d := by simp

theorem FreedAt.cons {n : NodeId} {d : DeferId} {l : List DeferId} {s t u : State} (h : FreedAt n [d] s t)
    (h' : FreedAt n l t u) : FreedAt n (d :: l) s u where
  heldOver := h'.heldOver.trans h.heldOver
  others m hm := (h'.others m hm).trans (h.others m hm)
  own := h'.own.trans h.own
  entry e := by
    rw [h'.entry, h.entry]
    by_cases hk : (s.entry e).keptAt = some n
    · by_cases he : e = d
      · subst he
        simp [hk, DeferEntry.keptAt_free]
      · simp [hk, he]
    · simp [hk]

theorem freeEntry_freedAt {n : NodeId} {d : DeferId} {s : State} (h : (s.entry d).keptAt = some n) :
    FreedAt n [d] s (freeEntry d s) where
  heldOver := by rw [freeEntry_kept h]; rfl
  others m hm := by rw [freeEntry_kept h, State.setNode_node_ne _ _ _ _ (Ne.symm hm)]; rfl
  own := by rw [freeEntry_kept h, State.setNode_node_self]
  entry e := by
    rw [freeEntry_entry]
    by_cases he : d = e
    · subst he
      simp [h]
    · simp [he, Ne.symm he]

theorem entryNodeReset_freedAt {n : NodeId} {d : DeferId} {s : State}
    (hw : ∀ c kind count due, s.entry d ≠ .waiting c n kind count due) : FreedAt n [d] s (entryNodeReset n s d) := by
  by_cases hk : (s.entry d).keptAt = some n
  · have freed := freeEntry_freedAt hk
    rcases entryNodeReset_unowned hk hw with e | e
    · rwa [e]
    · rw [e]
      exact ⟨freed.heldOver, freed.others, freed.own, freed.entry⟩
  · rw [entryNodeReset_other hk]
    exact ⟨rfl, fun _ _ => rfl, rfl, fun e => by by_cases he : e = d <;> simp [he, hk]⟩

theorem foldl_entryNodeReset_freedAt {n : NodeId} (l : List DeferId) {s : State}
    (hw : ∀ d c kind count due, s.entry d ≠ .waiting c n kind count due) :
    FreedAt n l s (l.foldl (entryNodeReset n) s) := by
  induction l generalizing s with
  | nil => exact .refl n s
  | cons d l ih =>
    have step := entryNodeReset_freedAt (hw d)
    refine step.cons (ih fun e c kind count due => ?_)
    rw [step.entry]
    split
    · simp
    · exact hw e c kind count due

/-! ### The reset as a whole (R36, R78, R179) -/

/-- The node's record as the reset finds it good: PRESENT, every source masked (R36). -/
def resetRecord (x : NodeRecord) : NodeRecord := { x with state := .present, untouched := 0, applied := 0xFF, dirty := true }

/-- The deferral table freed of the node's entries, behind the node's record. -/
def resetTable (n : NodeId) (s : State) : State :=
  (List.finRange 16).foldl (entryNodeReset n) (s.setNode n (resetRecord (s.node n)))

theorem resetTable_keeps (n : NodeId) {s : State} (h : NoStopWaits s) :
    (resetTable n s).admin = s.admin ∧ (resetTable n s).queryRefused = s.queryRefused ∧
      ((resetTable n s).node n).state = .present := by
  have keeps : (resetTable n s).resetKeeps = (s.setNode n (resetRecord (s.node n))).resetKeeps := by
    refine foldl_keeps (P := fun v => ∀ t : State, t.admin = v.1 → NoStopWaits t)
      (fun v d hv => entryNodeReset_resetKeeps n d (hv v rfl)) _ fun t ht k => ?_
    rw [adminWait_congr (t := s) ht]
    exact h k
  obtain ⟨admin, flags, states⟩ := (resetKeeps_eq_iff _ _).mp keeps
  refine ⟨admin, flags, ?_⟩
  rw [states, State.setNode_node_self]
  rfl

theorem State.setHeldOver_node (s : State) (m : NodeId) (x : BitVec 16) (n : NodeId) :
    (s.setHeldOver m x).node n = s.node n := rfl

/-- What follows the table: no id held over, no operation kept, the node's QUERY withdrawn, and the notice. -/
def resetClosed (n : NodeId) (table : State) : State :=
  notifyNode n .reset 0 (setQueryFlag n false (withdrawQueued (fun o => o.owner = .query n)
    ((table.setHeldOver n 0).setNode n { table.node n with outstanding := 0 })))

theorem nodeResetDone_closed (n : NodeId) (s : State) : nodeResetDone n s = resetClosed n (resetTable n s) := by
  simp only [nodeResetDone, resetClosed, resetTable, resetRecord, State.modNode, State.setHeldOver_node]

/-- The notice tells that the node is PRESENT. -/
theorem resetClosed_eq {n : NodeId} {table : State} (h : (table.node n).state = .present) :
    resetClosed n table = notify (.node n) (.node .present .reset 0)
      (setQueryFlag n false (withdrawQueued (fun o => o.owner = .query n)
        ((table.setHeldOver n 0).setNode n { table.node n with outstanding := 0 }))) := by
  have state_eq : (((table.setHeldOver n 0).setNode n { table.node n with outstanding := 0 }).node n).state = .present := by
    rw [State.setNode_node_self]
    exact h
  rw [← state_eq]
  rfl

theorem resetClosed_admin (n : NodeId) (table : State) : (resetClosed n table).admin = table.admin := by
  simp [resetClosed, notifyNode, notify, setQueryFlag]

theorem resetClosed_queryRefused (n : NodeId) (table : State) :
    (resetClosed n table).queryRefused = setBit table.queryRefused n.val false := by
  simp [resetClosed, notifyNode, notify, setQueryFlag, withdrawQueued]

theorem resetClosed_nodes (n : NodeId) (table : State) :
    (resetClosed n table).nodes = (table.setNode n { table.node n with outstanding := 0 }).nodes := by
  simp [resetClosed, notifyNode, notify, setQueryFlag, withdrawQueued, State.setNode]

theorem resetClosed_deferral (n : NodeId) (table : State) :
    (resetClosed n table).deferral = (table.setHeldOver n 0).deferral := by
  simp [resetClosed, notifyNode, notify, setQueryFlag, withdrawQueued]

theorem resetClosed_node_self (n : NodeId) (table : State) :
    (resetClosed n table).node n = { table.node n with outstanding := 0 } := by
  rw [State.node, resetClosed_nodes]
  exact State.setNode_node_self table n _

theorem resetClosed_node_ne {n m : NodeId} (h : m ≠ n) (table : State) : (resetClosed n table).node m = table.node m := by
  rw [State.node, resetClosed_nodes]
  exact State.setNode_node_ne table n m _ (Ne.symm h)

theorem resetClosed_heldOver_self (n : NodeId) (table : State) : (resetClosed n table).heldOver n = 0 := by
  rw [State.heldOver, resetClosed_deferral]
  exact State.setHeldOver_heldOver_self table n 0

theorem resetClosed_heldOver_ne {n m : NodeId} (h : m ≠ n) (table : State) :
    (resetClosed n table).heldOver m = table.heldOver m := by
  rw [State.heldOver, resetClosed_deferral]
  exact State.setHeldOver_heldOver_ne table n m 0 (Ne.symm h)

theorem resetClosed_entry (n : NodeId) (table : State) (d : DeferId) :
    (resetClosed n table).entry d = table.entry d := by
  rw [State.entry, resetClosed_deferral]
  rfl

/-- What follows the table as one change of it (R36, R78, R179). -/
theorem resetClosed_record {n : NodeId} {table : State} (h : (table.node n).state = .present) :
    resetClosed n table = notify (.node n) (.node .present .reset 0)
      { ((table.setHeldOver n 0).setNode n { table.node n with outstanding := 0 }) with
        queryRefused := (resetClosed n table).queryRefused
        window := { table.window with
          claimsS := table.window.claimsS.filter fun o => !decide (o.owner = .query n)
          claimsI := table.window.claimsI.filter fun o => !decide (o.owner = .query n)
          claimsJ := table.window.claimsJ.filter fun o => !decide (o.owner = .query n)
          backoff := table.window.backoff.filter fun o => !decide (o.1.owner = .query n) } } := by
  rw [resetClosed_queryRefused, resetClosed_eq h]
  rfl

/-- No claim and no backoff of the node's QUERY is left. -/
theorem resetClosed_noQuery (n : NodeId) (table : State) :
    (∀ o ∈ (resetClosed n table).window.claimsS, o.owner ≠ .query n) ∧
      ∀ o ∈ (resetClosed n table).window.backoff, o.1.owner ≠ .query n := by
  refine ⟨fun o ho => ?_, fun o ho => ?_⟩
  · simpa using (List.mem_filter.mp ho).2
  · simpa using (List.mem_filter.mp ho).2

/-- A notice handed over stands in the queue, its content not merged with an older one's (R193). -/
theorem insertNotice_mem {body : NoticeBody} (h : ∀ old, mergeBody old body = body) (writing : Bool) (now : Instant)
    (subject : Subject) (q : List Notice) :
    ∃ b ∈ insertNotice writing now subject body q, b.subject = subject ∧ b.body = body := by
  induction q generalizing writing with
  | nil => exact ⟨_, List.mem_singleton_self _, rfl, rfl⟩
  | cons x rest ih =>
    unfold insertNotice
    by_cases hx : x.subject = subject
    · rw [if_pos hx]
      exact ⟨_, List.mem_cons_self, hx, h _⟩
    · rw [if_neg hx]
      obtain ⟨b, hb, told⟩ := ih false
      exact ⟨b, List.mem_cons_of_mem _ hb, told⟩

/-- The reset's notice stands in the queue. -/
theorem resetClosed_notice {n : NodeId} {table : State} (h : (table.node n).state = .present) :
    ∃ b ∈ (resetClosed n table).notices, b.subject = .node n ∧ b.body = .node .present .reset 0 := by
  rw [resetClosed_eq h]
  refine insertNotice_mem (fun old => ?_) _ _ _ _
  simp [mergeBody]

/-- Without a WAITING entry of the node, the reset block by block: the node's record, the ids held over, and the entries. -/
theorem resetClosed_unowned {n : NodeId} {s : State} (hw : ∀ d c kind count due, s.entry d ≠ .waiting c n kind count due) :
    let u := resetClosed n (resetTable n s)
    u.node n = { resetRecord (s.node n) with outstanding := 0 } ∧ (∀ m, m ≠ n → u.node m = s.node m) ∧
      u.heldOver n = 0 ∧ (∀ m, m ≠ n → u.heldOver m = s.heldOver m) ∧
      (∀ d, (∃ kind count, s.entry d = .orphaned n kind count ∨ s.entry d = .cancelling n kind count) → u.entry d = .free) ∧
      ∀ d, (∀ kind count, s.entry d ≠ .orphaned n kind count ∧ s.entry d ≠ .cancelling n kind count) →
        u.entry d = s.entry d := by
  intro u
  have freed : FreedAt n (List.finRange 16) (s.setNode n (resetRecord (s.node n))) (resetTable n s) :=
    foldl_entryNodeReset_freedAt _ hw
  have entry_eq (d : DeferId) : u.entry d = if (s.entry d).keptAt = some n then .free else s.entry d := by
    rw [resetClosed_entry, freed.entry]
    simp only [List.mem_finRange, true_and]
    rfl
  refine ⟨?_, fun m hm => ?_, resetClosed_heldOver_self n _, fun m hm => ?_, fun d hk => ?_, fun d hk => ?_⟩
  · rw [resetClosed_node_self, freed.own, State.setNode_node_self]
  · rw [resetClosed_node_ne hm, freed.others m hm, State.setNode_node_ne _ _ _ _ (Ne.symm hm)]
  · rw [resetClosed_heldOver_ne hm, State.heldOver, freed.heldOver]
    rfl
  · rw [entry_eq, if_pos ((DeferEntry.keptAt_iff _ n).mpr (.inr hk))]
  · rw [entry_eq, if_neg]
    rw [DeferEntry.keptAt_iff]
    rintro (⟨c, kind, count, due, he⟩ | ⟨kind, count, he | he⟩)
    · exact hw d c kind count due he
    · exact (hk kind count).1 he
    · exact (hk kind count).2 he

/-! ### The ending of a NODE RESET while its command waits (R35, R155) -/

theorem noStopWaits_of_nodeReset {s : State} (h : adminWait s = some .nodeReset) : NoStopWaits s := by
  intro k
  simp [h]

section
variable {s : State} (hw : adminWait s = some .nodeReset) {n : NodeId} {f : Frame}
include hw

theorem resetEnds_done (hf : f.status = .done) : resetEnds n (.good f) s = endAdmin .ok none (nodeResetDone n s) := by
  have admin : (nodeResetDone n s).admin = s.admin := by
    rw [nodeResetDone_closed, resetClosed_admin, (resetTable_keeps n (noStopWaits_of_nodeReset hw)).1]
  have waits : adminWait (nodeResetDone n s) = some .nodeReset := (adminWait_congr admin).trans hw
  simp only [resetEnds, hf, if_true]
  exact nodeResetEnds_waiting waits .ok

theorem resetEnds_refused (hf : f.status = .refused) : resetEnds n (.good f) s = endAdmin .refused none s := by
  simp [resetEnds, hf, nodeResetEnds_waiting hw]

theorem resetEnds_untouched (hf : f.status = .untouched) : resetEnds n (.good f) s = endAdmin .noTaker none s := by
  simp [resetEnds, hf, nodeResetEnds_waiting hw]

end

end Sys2Proof.Machine
end

section
/-! PROOF. A CENSUS and a NODE RESET answered, the census's next step and report, and the entry to RUNNING or the rate switch. -/

namespace Sys2Proof.Machine

section
variable {s : State} {bytes : List Byte} {f : Frame} {r : TransitRecord} {t : Tag} {tr : Transaction} {n : NodeId}
  (h : ReturnReaches s bytes f r t tr) (hr : tr.reservation = none)
include h hr

/-! ### A CENSUS answered -/

omit h hr in
theorem next_censusStep_congr {u v : State} (h : u = v) :
    (.next (react (censusStep u)) : Result) = .next (react (censusStep v)) := by
  rw [h]

section
variable (ho : tr.operation.owner = .census n)
include ho

/-- DONE, REFUSED and UNTOUCHED reach the census. -/
theorem exec_census_final (hf : f.status = .done ∨ f.status = .refused ∨ f.status = .untouched) :
    exec (.frameReturn bytes) s = .next (react (censusEnds n (.good f) (tagReleased s .census f r t tr))) := by
  rw [exec_answered_final h (by rw [ho]; rfl) (.inl rfl) hr hf, ownerEnds_census ho]

/-- DONE with a well-formed record is a finding (R28). -/
theorem exec_census_found (hc : (tagReleased s .census f r t tr).nodes.census ≠ none) (hf : f.status = .done)
    (hi : (parseIdentity f.data).wellFormed = true) :
    exec (.frameReturn bytes) s =
      .next (react (censusStep (censusFound n (parseIdentity f.data) (tagReleased s .census f r t tr)))) := by
  rw [exec_census_final h hr ho (.inl hf), censusEnds_found hc hf hi]

theorem exec_census_untouched (hc : (tagReleased s .census f r t tr).nodes.census ≠ none) (hf : f.status = .untouched) :
    exec (.frameReturn bytes) s = .next (react (censusStep (censusEmpty n (tagReleased s .census f r t tr)))) := by
  rw [exec_census_final h hr ho (.inr (.inr hf)), censusEnds_untouched hc hf]

/-- BUSY withdrawn or in STOPPING changes nothing. -/
theorem exec_census_busy_down (hf : f.status = .busy) (hd : tr.withdrawn = true ∨ s.loop.state = .stopping) :
    exec (.frameReturn bytes) s = .next (react (tagReleased s .census f r t tr)) := by
  have kind : kindOf tr.operation.owner = .census := by rw [ho]; rfl
  cases hw : tr.withdrawn with
  | true => rw [exec_answered_busy_withdrawn h kind (.inl rfl) hf hr hw, ownerEnds_census ho, censusEnds_down (by simp)]
  | false =>
    have stopping : s.loop.state = .stopping := hd.resolve_left (by simp [hw])
    rw [exec_answered_busy_stopping h kind (.inl rfl) hf hr hw stopping, ownerEnds_census ho, censusEnds_down (by simp)]

/-- REFUSED, a record that is not well formed, and BUSY at the limit fail the address (R29). -/
theorem exec_census_failed (hc : (tagReleased s .census f r t tr).nodes.census ≠ none)
    (hf : f.status = .refused ∨ f.status = .done ∧ ¬ (parseIdentity f.data).wellFormed = true ∨
      f.status = .busy ∧ tr.withdrawn = false ∧ s.loop.state ≠ .stopping ∧ s.params.busyLimit ≤ tr.operation.busy + 1) :
    exec (.frameReturn bytes) s =
      .next (react (censusStep (censusFailed n (tagReleased s .census f r t tr)))) := by
  rcases hf with hf | ⟨hf, hi⟩ | ⟨hf, hw, hl, hb⟩
  · rw [exec_census_final h hr ho (.inr (.inl hf)), censusEnds_unusable hc (.inl hf)]
  · rw [exec_census_final h hr ho (.inl hf), censusEnds_unusable hc (.inr ⟨hf, hi⟩)]
  · rw [exec_answered_busy_limit h (by rw [ho]; rfl) (.inl rfl) hf hr hw hl hb, ownerEnds_census ho,
      censusEnds_failed hc (.inr rfl)]

end

/-! ### A NODE RESET answered -/

section
variable (ho : tr.operation.owner = .nodeReset n)
include ho

/-- DONE, REFUSED and UNTOUCHED reach the admin unit. -/
theorem exec_reset_final (hf : f.status = .done ∨ f.status = .refused ∨ f.status = .untouched) :
    exec (.frameReturn bytes) s = .next (react (resetEnds n (.good f) (tagReleased s .nodeReset f r t tr))) := by
  rw [exec_answered_final h (by rw [ho]; rfl) (.inr rfl) hr hf, ownerEnds_nodeReset ho]

variable (ha : adminWait (tagReleased s .nodeReset f r t tr) = some .nodeReset)
include ha

/-- DONE resets the node and ends the command OK. -/
theorem exec_reset_done (hf : f.status = .done) :
    exec (.frameReturn bytes) s = .next (react (endAdmin .ok none
      (resetClosed n (resetTable n (tagReleased s .nodeReset f r t tr))))) := by
  rw [exec_reset_final h hr ho (.inl hf), resetEnds_done ha hf, nodeResetDone_closed]

variable (hf : f.status = .busy) (hw : tr.withdrawn = false)
include hf hw

theorem exec_reset_busy_stopping (hl : s.loop.state = .stopping) :
    exec (.frameReturn bytes) s =
      .next (react (endAdmin .loopDown none (tagReleased s .nodeReset f r t tr))) := by
  rw [exec_answered_busy_stopping h (by rw [ho]; rfl) (.inr rfl) hf hr hw hl, ownerEnds_nodeReset ho]
  exact next_react_congr (nodeResetEnds_waiting ha .loopDown)

theorem exec_reset_busy_limit (hl : s.loop.state ≠ .stopping) (hb : s.params.busyLimit ≤ tr.operation.busy + 1) :
    exec (.frameReturn bytes) s =
      .next (react (endAdmin .busyLimit none (tagReleased s .nodeReset f r t tr))) := by
  rw [exec_answered_busy_limit h (by rw [ho]; rfl) (.inr rfl) hf hr hw hl hb, ownerEnds_nodeReset ho]
  exact next_react_congr (nodeResetEnds_waiting ha .busyLimit)

end

end

/-- Settles O45: the status decides the ending of each operation, and each ending is put in the words of the statement. -/
theorem censusAndNodeResetReturns : Obligations.CensusAndNodeResetReturns := by
  unfold Obligations.CensusAndNodeResetReturns
  refine ⟨⟨fun bytes f r t tr n s h ho hn hr hc => ?_, fun run s hrun => ?_, presentCount_eq, fun s => ?_,
    fun bytes f r t tr n s h ho hn hr hw => ?_⟩, fun rate s => ?_⟩
  · intro stopping limit w x word0 i wellFormed left told changed
    obtain ⟨_, _, w_eq⟩ := tagReleased_eq (kind := .census) (f := f) (.inl rfl) hn s r t
    have loop : w.loop.rate = s.loop.rate := by simp only [w, w_eq]; rfl
    have flags : w.queryRefused = s.queryRefused := by simp only [w, w_eq]; rfl
    have under_way : w.nodes.census ≠ none := by simp only [w, w_eq]; exact hc
    have wellFormed_iff : (parseIdentity f.data).wellFormed = true ↔ wellFormed := Identity.wellFormed_iff _
    have changed_iff : identityChanged x i = true ↔ changed := identityChanged_iff x i
    refine ⟨fun hf hi => ?_, fun hf => ?_, fun hf => ?_, fun hf hd => ?_, fun hf hw hl hb => ?_⟩
    · have found : exec (.frameReturn bytes) s = .next (react (censusStep (censusFound n i w))) :=
        exec_census_found h hr ho under_way hf (wellFormed_iff.mpr hi)
      rw [found]
      refine ⟨fun hrate => ⟨setBit w.queryRefused n.val false, fun m => ?_, ?_⟩, fun hrate => ?_⟩
      · rw [setBit_queryFlag, flags]
      · intro y v
        obtain ⟨told, moved, same⟩ := censusNews_cases changed_iff n x.state y v
        rw [censusFound_present (by rwa [loop])]
        exact ⟨fun hc => next_censusStep_congr (told hc), fun hc hx => next_censusStep_congr (moved hc hx),
          fun hc hx => next_censusStep_congr (same hc hx)⟩
      · intro y
        obtain ⟨told, moved, same⟩ := censusNews_cases changed_iff n x.state y w
        rw [censusFound_incompatible (by rwa [loop])]
        exact ⟨fun hc => next_censusStep_congr (told hc), fun hc hx => next_censusStep_congr (moved hc hx),
          fun hc hx => next_censusStep_congr (same hc hx)⟩
    · rw [exec_census_untouched h hr ho under_way hf]
      exact ⟨fun hx => next_censusStep_congr (censusEmpty_moved hx), fun hx => next_censusStep_congr (censusEmpty_same hx)⟩
    · rw [exec_census_failed h hr ho under_way (by rwa [wellFormed_iff])]
      exact ⟨fun hx => next_censusStep_congr (censusFailed_told hx),
        fun hx => next_censusStep_congr (censusFailed_notPresent hx)⟩
    · exact exec_census_busy_down h hr ho hf hd
    · exact exec_answered_busy_backoff h (by rw [ho]; rfl) (.inl rfl) hf hr hw hl hb
  · intro w claim
    refine ⟨fun m hm he => censusStep_claims hrun hm he, fun hl he => censusStep_counts hrun hl he, fun hl he => ?_⟩
    intro v
    rw [censusStep_ends hrun hl he]
    refine ⟨fun hb hw => ?_, fun hb => ?_⟩
    · rw [hb]
      exact if_pos hw
    · rw [hb]
      rfl
  · intro supported
    exact ⟨agreedRate_none, fun hp c hc => agreedRate_highest hp hc⟩
  · intro w
    have waits : adminWait w = some .nodeReset := (adminWait_congr (tagReleased_admin s _ f r t tr)).trans hw
    refine ⟨fun hf => ?_, fun hf => ?_, fun hf hw' => ⟨fun hl => ?_, fun hl hb => ?_, fun hl hb => ?_⟩, fun hf => ?_⟩
    · rw [exec_reset_final h hr ho (.inr (.inl hf))]
      exact next_react_congr (resetEnds_refused waits hf)
    · rw [exec_reset_final h hr ho (.inr (.inr hf))]
      exact next_react_congr (resetEnds_untouched waits hf)
    · exact exec_reset_busy_stopping h hr ho waits hf hw' hl
    · exact exec_reset_busy_limit h hr ho waits hf hw' hl hb
    · exact exec_answered_busy_backoff h (by rw [ho]; rfl) (.inr rfl) hf hr hw' hl (Nat.not_le.mpr hb)
    · intro table others
      obtain ⟨_, _, w_eq⟩ := tagReleased_eq (kind := .nodeReset) (f := f) (.inr (by simp [hf])) hn s r t
      have flags : w.queryRefused = s.queryRefused := by simp only [w, w_eq]; rfl
      have deferral : w.deferral = s.deferral := by simp only [w, w_eq]; rfl
      have entry_eq (d : DeferId) : w.entry d = s.entry d := by rw [State.entry, deferral]; rfl
      have table_eq : resetTable n w = table := by
        refine foldl_congr_step fun v d => ?_
        by_cases hk : (v.entry d).keptAt = some n
        · rcases (DeferEntry.keptAt_iff _ n).mp hk with ⟨c, kind, count, due, he⟩ | ⟨kind, count, he | he⟩
          · rw [entryNodeReset_waiting he, freeEntry_kept hk]
            simp [he]
          · rw [entryNodeReset_orphaned he, freeEntry_kept hk]
            simp [he]
          · rw [entryNodeReset_cancelling he, freeEntry_kept hk]
            simp [he]
        · rw [entryNodeReset_other hk]
          cases he : v.entry d with
          | free | reserved c m kind count early => rfl
          | waiting c m kind count due | orphaned m kind count | cancelling m kind count =>
            have other : m ≠ n := by simpa [he, DeferEntry.keptAt] using hk
            simp [other]
      obtain ⟨-, table_flags, present⟩ := resetTable_keeps n (noStopWaits_of_nodeReset waits)
      have unowned := resetClosed_unowned (n := n) (s := w)
      have ends := exec_reset_done h hr ho waits hf
      rw [table_eq] at table_flags present ends unowned
      clear_value table
      refine ⟨resetClosed n table, ends, resetClosed_record present, fun m => ?_, fun hd => ?_⟩
      · rw [resetClosed_queryRefused, setBit_queryFlag, table_flags, flags]
      · obtain ⟨own, others_kept, held, held_kept, freed, kept⟩ := unowned fun d c kind count due => by
          rw [entry_eq]
          exact hd d c kind count due
        obtain ⟨claims, backoff⟩ := resetClosed_noQuery n table
        refine ⟨own, others_kept, held, fun m hm => ?_, fun d hk => freed d (by simpa only [entry_eq] using hk),
          fun d hk => ?_, claims, backoff, resetClosed_notice present⟩
        · rw [held_kept m hm, State.heldOver, deferral]
          rfl
        · rw [kept d (by simpa only [entry_eq] using hk), entry_eq]
  · intro switches up
    have up_eq : loopUp s = up := foldl_congr_step fun v k => slotLoopRunning_eq k v
    refine ⟨fun hs => if_pos hs, fun hs hw => ?_, fun hs hw => ?_⟩
    · rw [takeAgreedRate, if_neg hs, enterRunning_eq, if_pos hw, up_eq]
    · rw [takeAgreedRate, if_neg hs, enterRunning_eq, if_neg hw, up_eq]

end Sys2Proof.Machine
end

section
/-! SUPPORT. An AWAIT's next try, a WAITING entry that has lost its owner, and what a timer's instant leaves of a job. -/

namespace Sys2Proof.Machine

/-! ### The arrival of an instant, seen from a job -/

@[simp] theorem reachInstant_ctx (due : Instant) (s : State) (c : CtxId) : (reachInstant due s).ctx c = s.ctx c := by
  obtain ⟨i, h⟩ := reachInstant_eq due s
  rw [h]
  rfl

@[simp] theorem reachInstant_currentStep (due : Instant) (s : State) (c : CtxId) :
    currentStep (reachInstant due s) c = currentStep s c := by
  obtain ⟨i, h⟩ := reachInstant_eq due s
  rw [h]
  rfl

@[simp] theorem reachInstant_node (due : Instant) (s : State) (n : NodeId) : (reachInstant due s).node n = s.node n :=
  congrArg (fun u : NodeUnit => vget u.records n) (reachInstant_nodes due s)

/-! ### A job that comes out of its pause -/

/-- The job after its pause: READY, the timer gone (R113). -/
def pauseOver (c : CtxId) (s : State) : State := s.modCtx c fun x => { x with state := .ready, pause := none }

@[simp] theorem pauseOver_loop (c : CtxId) (s : State) : (pauseOver c s).loop = s.loop := rfl
@[simp] theorem pauseOver_node (c : CtxId) (s : State) (n : NodeId) : (pauseOver c s).node n = s.node n := rfl

@[simp] theorem pauseOver_state (c : CtxId) (s : State) : ((pauseOver c s).ctx c).state = .ready := by
  simp [pauseOver]

/-- A job that is READY already is made READY again by no change. -/
theorem pauseOver_ready (c : CtxId) (s : State) :
    (pauseOver c s).modCtx c (fun x => { x with state := .ready }) = pauseOver c s := by
  simp [pauseOver, State.modCtx]

/-! ### The next operation of a step -/

/-- A step whose node is not PRESENT ends at the node check (R85). -/
theorem beginOperation_nodeFault {c : CtxId} {p : Step} {n : NodeId} {cause : Cause} {s : State} (hn : nodeAt? p.node = some n)
    (hc : nodeCheck (s.node n).state = some cause) : beginOperation c p s = .ends (.fault cause) s := by
  simp [beginOperation, hn, hc]

/-- An AWAIT moves no words, so of its checks the node check alone stands before the claim (R60, R85, R89). -/
theorem beginOperation_await {c : CtxId} {p : Step} {n : NodeId} {s : State} (hk : p.kind = .await)
    (hn : nodeAt? p.node = some n) (hc : (s.node n).state = .present) : beginOperation c p s = claimOperation c p n s := by
  have check : dataCheck p (s.ctx c) = none := by simp [dataCheck, Step.reads, Step.usesOut, hk]
  have noStaging : p.usesOut = false := by simp [Step.usesOut, hk]
  simp [beginOperation, hn, hc, nodeCheck, check, noStaging]

/-- No COMMAND is claimed unless the loop is RUNNING (R46). -/
theorem claimOperation_loopDown {c : CtxId} {p : Step} {n : NodeId} {s : State} (h : s.loop.state ≠ .running) :
    claimOperation c p n s = .ends (.fault .loopDown) s := by
  simp [claimOperation, permits, h]

/-- An AWAIT's claim is a TEST of its point (R89). -/
theorem claimOperation_await {c : CtxId} {p : Step} {n : NodeId} {s : State} (hk : p.kind = .await)
    (h : s.loop.state = .running) :
    claimOperation c p n s = .waits (pushClaim
      { owner := .context c, node := n, command := some { op := .test, point := p.point, count := 0, immediate := none } }
      (s.modCtx c fun x => { x with state := .ready })) := by
  simp [claimOperation, permits, h, hk, StepKind.command, opCount]

/-- In a job that goes on, a next operation that could not be begun ends the step. -/
theorem nextOperation_ends {c : CtxId} {p : Step} {e : StepEnd} {s t : State} (hs : (s.ctx c).state ≠ .aborting)
    (h : beginOperation c p s = .ends e t) : nextOperation c p s = endStep c e t := by
  simp [nextOperation, hs, h]

theorem nextOperation_waits {c : CtxId} {p : Step} {s t : State} (hs : (s.ctx c).state ≠ .aborting)
    (h : beginOperation c p s = .waits t) : nextOperation c p s = t := by
  simp [nextOperation, hs, h]

/-! ### A WAITING entry that has lost its owner (R74) -/

section
variable {d : DeferId} {c : CtxId} {n : NodeId} {op : CommandOp} {count : Nat} {due : Instant} {s : State}
  (h : s.entry d = .waiting c n op count due)
include h

/-- A CANCEL can be claimed. -/
theorem orphanEntry_cancels (hn : (s.node n).state = .present) (hl : s.loop.state = .running) :
    orphanEntry d s = pushClaim { owner := .cancel d, node := n } (s.setEntry d (.cancelling n op count)) := by
  simp [orphanEntry, h, hn, hl]

/-- The node is PRESENT, and the loop lets no CANCEL be claimed. -/
theorem orphanEntry_orphans (hn : (s.node n).state = .present) (hl : s.loop.state ≠ .running) :
    orphanEntry d s = s.setEntry d (.orphaned n op count) := by
  simp [orphanEntry, h, hn, hl]

/-- The node is not PRESENT: the entry is FREE, and its id is held over. -/
theorem orphanEntry_frees (hn : (s.node n).state ≠ .present) : orphanEntry d s = holdOver n d true (freeEntry d s) := by
  simp [orphanEntry, h, hn]

end

/-! ### The held-over sets (R66) -/

theorem holdOver_entry (n : NodeId) (d d' : DeferId) (b : Bool) (s : State) : (holdOver n d b s).entry d' = s.entry d' := rfl

theorem holdOver_node (n m : NodeId) (d : DeferId) (b : Bool) (s : State) : (holdOver n d b s).node m = s.node m := rfl

theorem holdOver_self (n : NodeId) (d : DeferId) (b : Bool) (s : State) :
    ((holdOver n d b s).heldOver n).getLsbD d.val = b := by
  have set : (holdOver n d b s).heldOver n = setBit (s.heldOver n) d.val b := vget_vset_self _ _ _
  rw [set, setBit_getLsbD _ _ _ _ d.isLt, if_pos rfl]

end Sys2Proof.Machine
end

section
/-! PROOF. The deferral deadline, the job deadline, the AWAIT interval and the DELAY. -/

namespace Sys2Proof.Machine

/-- A deferral deadline: the owner's step faults first, and the entry is orphaned after it (R69). -/
theorem exec_deferDeadlineExpiry {d : DeferId} {c : CtxId} {n : NodeId} {op : CommandOp} {count : Nat} {due : Instant}
    {s : State} (h : s.entry d = .waiting c n op count due) :
    exec (.deferDeadlineExpiry d) s
      = .next (react (orphanEntry d (deliver c (.fault .deferExpired) (reachInstant due s)))) := by
  simp [exec, execDeferDeadlineExpiry, h, taken, deferExpires]

/-- A job deadline reaches the job (R116). -/
theorem exec_jobDeadlineExpiry {c : CtxId} {due : Instant} {s : State} (h : (s.ctx c).deadline = some due) :
    exec (.jobDeadlineExpiry c) s = .next (react (reachJob c .deadline (reachInstant due s))) := by
  simp [exec, execJobDeadlineExpiry, h, taken]

/-- A DELAY completes its step (R92). -/
theorem exec_delayExpiry {c : CtxId} {due : Instant} {s : State} (h : (s.ctx c).pause = some (.delay due)) :
    exec (.delayExpiry c) s = .next (react (endStep c .completed (pauseOver c (reachInstant due s)))) := by
  simp [exec, execDelayExpiry, h, taken, delayEnds, pauseOver]

/-! ### The end of an AWAIT's interval (R89) -/

section
variable {c : CtxId} {due : Instant} {p : Step} {n : NodeId} {s : State} (hp : (s.ctx c).pause = some (.await due))
  (hs : currentStep s c = some p) (hn : nodeAt? p.node = some n)
include hp hs

theorem exec_awaitIntervalExpiry :
    exec (.awaitIntervalExpiry c) s = .next (react (nextOperation c p (pauseOver c (reachInstant due s)))) := by
  simp [exec, execAwaitIntervalExpiry, hp, taken, nextTry, hs, pauseOver]

include hn

theorem exec_awaitIntervalExpiry_nodeFault {cause : Cause} (h : nodeCheck (s.node n).state = some cause) :
    exec (.awaitIntervalExpiry c) s = .next (react (endStep c (.fault cause) (pauseOver c (reachInstant due s)))) := by
  rw [exec_awaitIntervalExpiry hp hs, nextOperation_ends (by simp) (beginOperation_nodeFault hn (by simpa using h))]

variable (hk : p.kind = .await) (hc : (s.node n).state = .present)
include hk hc

theorem exec_awaitIntervalExpiry_loopDown (h : s.loop.state ≠ .running) :
    exec (.awaitIntervalExpiry c) s = .next (react (endStep c (.fault .loopDown) (pauseOver c (reachInstant due s)))) := by
  have begun := beginOperation_await (c := c) (s := pauseOver c (reachInstant due s)) hk hn (by simpa using hc)
  rw [claimOperation_loopDown (by simpa using h)] at begun
  rw [exec_awaitIntervalExpiry hp hs, nextOperation_ends (by simp) begun]

theorem exec_awaitIntervalExpiry_tests (h : s.loop.state = .running) :
    exec (.awaitIntervalExpiry c) s = .next (react (pushClaim
      { owner := .context c, node := n, command := some { op := .test, point := p.point, count := 0, immediate := none } }
      (pauseOver c (reachInstant due s)))) := by
  have begun := beginOperation_await (c := c) (s := pauseOver c (reachInstant due s)) hk hn (by simpa using hc)
  rw [claimOperation_await hk (by simpa using h), pauseOver_ready] at begun
  rw [exec_awaitIntervalExpiry hp hs, nextOperation_waits (by simp) begun]

end

/-- Settles O54: the entry by `orphanEntry_cancels`, `orphanEntry_orphans` and `orphanEntry_frees`, and each expiry by its own
equation, the AWAIT's by the outcome of the checks of its next try. -/
theorem contextAndDeferralTimers : Obligations.ContextAndDeferralTimers := by
  unfold Obligations.ContextAndDeferralTimers
  refine ⟨fun d c n op count due s h => ⟨exec_deferDeadlineExpiry h, orphanEntry_cancels h, orphanEntry_orphans h, ?_⟩,
    fun c due s => ⟨exec_jobDeadlineExpiry, exec_delayExpiry, ?_⟩⟩
  · intro hn
    have kept : (s.entry d).keptAt = some n := by rw [h]; rfl
    rw [orphanEntry_frees h hn, holdOver_entry, holdOver_node, freeEntry_entry]
    refine ⟨if_pos rfl, holdOver_self n d true _, ?_⟩
    rw [freeEntry_kept kept, State.setNode_node_self]
  · intro p n hp hs hk hn ready ends
    have faults {cause : Cause} : nodeCheck (s.node n).state = some cause → ends cause :=
      exec_awaitIntervalExpiry_nodeFault hp hs hn
    refine ⟨fun silent => faults (by rw [silent]; rfl), fun left => ?_, fun present =>
      ⟨exec_awaitIntervalExpiry_loopDown hp hs hn hk present, exec_awaitIntervalExpiry_tests hp hs hn hk present⟩⟩
    rcases left with absent | incompatible
    · exact faults (by rw [absent]; rfl)
    · exact faults (by rw [incompatible]; rfl)

end Sys2Proof.Machine
end

section
/-! SUPPORT. Records handed over (R120): what the hand-over leaves alone, when a list of records waits as a whole, and what a
job's entry to COMPLETING comes to. -/

namespace Sys2Proof.Machine

/-! ### Tables read after an update of another block -/

section
variable (s : State) (c : CtxId) (k : RingId)

@[simp] theorem State.setHandOver_ctx (l : List CtxId) : (s.setHandOver l).ctx c = s.ctx c := rfl
@[simp] theorem State.setHandOver_compRing (l : List CtxId) : (s.setHandOver l).compRing k = s.compRing k := rfl
@[simp] theorem State.setHandOver_setHandOver (l m : List CtxId) : (s.setHandOver l).setHandOver m = s.setHandOver m := rfl
@[simp] theorem State.setHandOver_self : s.setHandOver s.handOver = s := rfl
@[simp] theorem State.setCtx_ctx : s.setCtx c (s.ctx c) = s := by simp [State.setCtx, State.ctx, State.setJobs]
@[simp] theorem State.setLists_ctx (l : Vector StoredList 64) : (s.setLists l).ctx c = s.ctx c := rfl
@[simp] theorem State.setLists_compRing (l : Vector StoredList 64) : (s.setLists l).compRing k = s.compRing k := rfl
@[simp] theorem State.setLists_subRing (l : Vector StoredList 64) : (s.setLists l).subRing k = s.subRing k := rfl
@[simp] theorem State.setCtx_compRing (x : Context) : (s.setCtx c x).compRing k = s.compRing k := rfl
@[simp] theorem State.setCtx_subRing (x : Context) : (s.setCtx c x).subRing k = s.subRing k := rfl
@[simp] theorem State.setSubRing_ctx (x : SubRing) : (s.setSubRing k x).ctx c = s.ctx c := rfl
@[simp] theorem State.setCompRing_ctx (x : CompRing) : (s.setCompRing k x).ctx c = s.ctx c := rfl
@[simp] theorem State.setSubRing_compRing (x : SubRing) (j : RingId) :
    (s.setSubRing k x).compRing j = s.compRing j := rfl
@[simp] theorem State.setCompRing_subRing (x : CompRing) (j : RingId) :
    (s.setCompRing k x).subRing j = s.subRing j := rfl

end

/-! ### A context freed, and a record handed over -/

/-- A ring context freed: its ring holds one job less (R120, R126). -/
theorem freeContext_ring {c : CtxId} (h : c.val < 12) (s : State) :
    freeContext c s = (s.setCtx c {}).setSubRing (s.ctx c).sq
      { s.subRing (s.ctx c).sq with jobsHeld := (s.subRing (s.ctx c).sq).jobsHeld - 1 } := by
  simp [freeContext, h]

theorem freeContext_ctx_ne {c d : CtxId} (h : d ≠ c) (s : State) : (freeContext c s).ctx d = s.ctx d := by
  unfold freeContext
  dsimp only
  split <;> simp [State.setCtx_ctx_ne _ _ _ _ h.symm]

theorem freeContext_lists (c : CtxId) (s : State) : (freeContext c s).lists = s.lists := by
  unfold freeContext
  dsimp only
  split <;> rfl

section
variable {c : CtxId} {s : State} {r : JobRecord} (hr : (s.ctx c).record = some r)
include hr

/-- A job's record handed to an ACTIVE ring leaves its context and joins the posting queue (R131). -/
theorem handJob_active (ha : (s.compRing (s.ctx c).cq).state = .active) :
    handJob c s = (s.setCtx c { s.ctx c with record := none }).setCompRing (s.ctx c).cq
      { s.compRing (s.ctx c).cq with queue := (s.compRing (s.ctx c).cq).queue ++ [.job c r] } := by
  simp only [handJob, hr]
  exact handRecord_active (s := s.setCtx c _) _ ha

/-- A job's record handed to a ring that is not ACTIVE is dropped, and the job's context is FREE (R131, R133). -/
theorem handJob_dropped (ring : c.val < 12) (ha : (s.compRing (s.ctx c).cq).state ≠ .active) :
    handJob c s = (s.setCtx c {}).setSubRing (s.ctx c).sq
      { s.subRing (s.ctx c).sq with jobsHeld := (s.subRing (s.ctx c).sq).jobsHeld - 1 } := by
  have dropped : handJob c s = freeContext c (s.setCtx c { s.ctx c with record := none }) := by
    simp only [handJob, hr]
    exact handRecord_dropped (s := s.setCtx c _) _ ha
  rw [dropped, freeContext_ring ring, State.setCtx_setCtx, State.setCtx_ctx_self, State.setCtx_subRing]

end

/-! ### What the hand-over leaves alone -/

theorem handRecord_job_ctx_ne (k : RingId) {c d : CtxId} (h : d ≠ c) (r : JobRecord) (s : State) :
    (handRecord k (.job c r) s).ctx d = s.ctx d := by
  unfold handRecord
  dsimp only
  split
  · rfl
  · exact freeContext_ctx_ne h s

theorem handNext_ctx_ne {c d : CtxId} (h : d ≠ c) (s : State) : (handNext s c).ctx d = s.ctx d := by
  unfold handNext
  split
  · rfl
  · unfold handJob
    split
    · rw [handRecord_job_ctx_ne _ h, State.modCtx, State.setCtx_ctx_ne _ _ _ _ h.symm]
    · rfl

theorem foldl_handNext_ctx {l : List CtxId} {d : CtxId} (h : d ∉ l) (s : State) : (l.foldl handNext s).ctx d = s.ctx d := by
  induction l generalizing s with
  | nil => rfl
  | cons c l ih =>
    rw [List.mem_cons, not_or] at h
    obtain ⟨hc, hl⟩ := h
    rw [List.foldl_cons, ih hl, handNext_ctx_ne hc]

theorem handRecord_job_lists (k : RingId) (c : CtxId) (r : JobRecord) (s : State) :
    (handRecord k (.job c r) s).lists = s.lists := by
  unfold handRecord
  dsimp only
  split
  · rfl
  · exact freeContext_lists c s

theorem handNext_lists (s : State) (c : CtxId) : (handNext s c).lists = s.lists := by
  unfold handNext
  split
  · rfl
  · unfold handJob
    split
    · exact handRecord_job_lists _ c _ _
    · rfl

/-! ### Records that wait -/

/-- Records each of which waits, for its context's read or for one before it, stay in their order. -/
theorem foldl_handNext_waits {s : State} (l before : List CtxId)
    (h : ∀ pre c post, l = pre ++ c :: post →
      (s.ctx c).reading ≠ none ∨ ∃ d ∈ before ++ pre, (s.ctx d).cq = (s.ctx c).cq) :
    l.foldl handNext (s.setHandOver before) = s.setHandOver (before ++ l) := by
  induction l generalizing before with
  | nil => simp
  | cons c l ih =>
    have waits : handNext (s.setHandOver before) c = s.setHandOver (before ++ [c]) :=
      handNext_waits (by simpa [Option.isSome_iff_ne_none] using h [] c l rfl)
    rw [List.foldl_cons, waits, ih (before ++ [c]) ?_, List.append_assoc, List.singleton_append]
    intro pre d post e
    simpa using h (c :: pre) d post (by rw [e, List.cons_append])

/-- Where no record of the list can be handed over, the hand-over changes nothing. -/
theorem handOverRecords_waits {s : State} (h : HandOverWaits s) : handOverRecords s = s :=
  foldl_handNext_waits s.handOver [] h

/-- The record of one context more is handed over in its turn, behind the others. -/
theorem handOverRecords_snoc (s : State) (l : List CtxId) (c : CtxId) :
    handOverRecords (s.setHandOver (l ++ [c])) = handNext (handOverRecords (s.setHandOver l)) c := by
  simp [handOverRecords]

theorem HandOverWaits.congr {s t : State} (h : HandOverWaits s) (hl : t.handOver = s.handOver)
    (hc : ∀ d ∈ s.handOver, t.ctx d = s.ctx d) : HandOverWaits t := by
  intro before c after e
  rw [hl] at e
  have old {d : CtxId} (hd : d ∈ before ++ c :: after) : t.ctx d = s.ctx d := hc d (e ▸ hd)
  rw [old (by simp)]
  refine (h before c after e).imp_right fun ⟨d, hd, hcq⟩ => ⟨d, hd, ?_⟩
  rw [old (List.mem_append_left _ hd), hcq]

/-! ### The entry to COMPLETING -/

/-- A reference released changes the list store only. -/
theorem releaseList_eq (x : Context) (s : State) : ∃ l, releaseList x s = s.setLists l := by
  unfold releaseList releaseReference
  split
  · split
    · exact ⟨_, rfl⟩
    · exact ⟨s.lists, rfl⟩
  · exact ⟨s.lists, rfl⟩

/-- A context at its entry to COMPLETING, its record built. -/
def Context.completed (outcome : JobOutcome) (now : Instant) (x : Context) : Context :=
  { x with state := .completing, deadline := none, pause := none, list := .none, staging := [], deferredOp := none,
           inWrite := none, record := some (jobRecord outcome x now) }

section
variable (o : JobOutcome) (now : Instant) (x : Context)

@[simp] theorem Context.completed_state : (x.completed o now).state = .completing := rfl
@[simp] theorem Context.completed_sq : (x.completed o now).sq = x.sq := rfl
@[simp] theorem Context.completed_cq : (x.completed o now).cq = x.cq := rfl
@[simp] theorem Context.completed_deadline : (x.completed o now).deadline = none := rfl
@[simp] theorem Context.completed_reading : (x.completed o now).reading = x.reading := rfl
@[simp] theorem Context.completed_record : (x.completed o now).record = some (jobRecord o x now) := rfl

end

/-- The state with a job's entry made and its record not yet handed over: the deadline stopped, the list's reference released,
the record built (R120). -/
def enteredCompleting (c : CtxId) (o : JobOutcome) (s : State) : State :=
  (releaseList (s.ctx c) s).setCtx c ((s.ctx c).completed o s.timebase)

section
variable (c : CtxId) (o : JobOutcome) (s : State)

@[simp] theorem enteredCompleting_ctx_self : (enteredCompleting c o s).ctx c = (s.ctx c).completed o s.timebase :=
  State.setCtx_ctx_self _ _ _

theorem enteredCompleting_ctx_ne {d : CtxId} (h : d ≠ c) : (enteredCompleting c o s).ctx d = s.ctx d := by
  obtain ⟨l, hl⟩ := releaseList_eq (s.ctx c) s
  rw [enteredCompleting, State.setCtx_ctx_ne _ _ _ _ h.symm, hl, State.setLists_ctx]

@[simp] theorem enteredCompleting_lists : (enteredCompleting c o s).lists = (releaseList (s.ctx c) s).lists := rfl

@[simp] theorem enteredCompleting_handOver : (enteredCompleting c o s).handOver = s.handOver := by
  obtain ⟨l, hl⟩ := releaseList_eq (s.ctx c) s
  simp [enteredCompleting, hl]

@[simp] theorem enteredCompleting_compRing (k : RingId) : (enteredCompleting c o s).compRing k = s.compRing k := by
  obtain ⟨l, hl⟩ := releaseList_eq (s.ctx c) s
  simp [enteredCompleting, hl]

@[simp] theorem enteredCompleting_subRing (r : RingId) : (enteredCompleting c o s).subRing r = s.subRing r := by
  obtain ⟨l, hl⟩ := releaseList_eq (s.ctx c) s
  simp [enteredCompleting, hl]

end

section
variable {c : CtxId} {s : State} (o : JobOutcome) (h : HandOverWaits s) (hc : c ∉ s.handOver)
include h hc

/-- A job enters COMPLETING while no older record can be handed over: its own is the next to be. -/
theorem enterCompleting_eq : enterCompleting c o s = handNext (enteredCompleting c o s) c := by
  have waits : HandOverWaits (enteredCompleting c o s) :=
    h.congr (enteredCompleting_handOver c o s) fun d hd => enteredCompleting_ctx_ne c o s fun e => hc (e ▸ hd)
  have last : enterCompleting c o s =
      handOverRecords ((enteredCompleting c o s).setHandOver ((enteredCompleting c o s).handOver ++ [c])) := rfl
  rw [last, handOverRecords_snoc, State.setHandOver_self, handOverRecords_waits waits]

/-- Its record is handed over at once when it waits for nothing. -/
theorem enterCompleting_hands (hr : (s.ctx c).reading = none) (hf : ∀ d ∈ s.handOver, (s.ctx d).cq ≠ (s.ctx c).cq) :
    enterCompleting c o s = handJob c (enteredCompleting c o s) := by
  rw [enterCompleting_eq o h hc]
  refine handNext_hands (by simpa using hr) fun d hd => ?_
  rw [enteredCompleting_handOver] at hd
  rw [enteredCompleting_ctx_ne c o s fun e => hc (e ▸ hd), enteredCompleting_ctx_self]
  exact hf d hd

/-- Its record waits for its read, or behind the record of an older context for the same ring. -/
theorem enterCompleting_keeps (hk : (s.ctx c).reading ≠ none ∨ ∃ d ∈ s.handOver, (s.ctx d).cq = (s.ctx c).cq) :
    enterCompleting c o s = (enteredCompleting c o s).setHandOver (s.handOver ++ [c]) := by
  rw [enterCompleting_eq o h hc, ← enteredCompleting_handOver c o s]
  refine handNext_waits (hk.imp (fun hr => ?_) fun ⟨d, hd, hcq⟩ => ⟨d, by simpa using hd, ?_⟩)
  · simpa [Option.isSome_iff_ne_none] using hr
  · rw [enteredCompleting_ctx_ne c o s fun e => hc (e ▸ hd), enteredCompleting_ctx_self]
    exact hcq

end

end Sys2Proof.Machine
end

section
/-! PROOF. A job's entry to COMPLETING, and its record handed over at once or kept. -/

namespace Sys2Proof.Machine

/-- Settles O34: what no hand-over touches by `handNext_lists` and `handNext_ctx_ne`; then the record goes to an ACTIVE ring, is
dropped by another, or is kept, as `handNext` decides on the job's read and the older records. -/
theorem completingJobPostsItsRecord : Obligations.CompletingJobPostsItsRecord := by
  unfold Obligations.CompletingJobPostsItsRecord
  intro c o s x t r waits hc ring
  have entered : t = handNext (enteredCompleting c o s) c := enterCompleting_eq o waits hc
  have record : ((enteredCompleting c o s).ctx c).record = some r := by rw [enteredCompleting_ctx_self]; rfl
  have cq : ((enteredCompleting c o s).ctx c).cq = x.cq := by rw [enteredCompleting_ctx_self]; rfl
  refine ⟨fun id stored => ?_, fun d hd => ?_, fun idle first => ?_, fun kept => ?_⟩
  · rw [entered, handNext_lists, enteredCompleting_lists, releaseList, stored]
  · rw [entered, handNext_ctx_ne hd, enteredCompleting_ctx_ne c o s hd]
  · have hands : t = handJob c (enteredCompleting c o s) := enterCompleting_hands o waits hc idle first
    by_cases active : (s.compRing x.cq).state = .active
    · have queued := handJob_active record (by rw [cq, enteredCompleting_compRing]; exact active)
      rw [← hands, cq] at queued
      rw [queued]
      simp [active]
    · have dropped := handJob_dropped record ring (by rw [cq, enteredCompleting_compRing]; exact active)
      rw [← hands] at dropped
      rw [dropped]
      simp [active, x]
  · rw [show t = _ from enterCompleting_keeps o waits hc kept]
    simp [x, r, jobRecord, stamp]

end Sys2Proof.Machine
end

section
/-! PROOF. The ends of a context's inline list read and staging read, and the records that waited for a read. -/

namespace Sys2Proof.Machine

/-! ### An inline list read (R108 to R110) -/

theorem readHasLength_iff (e : ReadEnd) (length : Nat) :
    readHasLength e length = true ↔ ∀ bytes, e = .data bytes → bytes.length = length := by
  cases e <;> simp [readHasLength]

/-- A context whose host-memory read has ended (R108, R61). -/
def readEnded (c : CtxId) (s : State) : State := s.setCtx c { s.ctx c with reading := none }

@[simp] theorem readEnded_ctx (c : CtxId) (s : State) : (readEnded c s).ctx c = { s.ctx c with reading := none } :=
  State.setCtx_ctx_self _ _ _

section
variable {c : CtxId} {addr : Addr} {length : Nat} {s : State} (hr : (s.ctx c).reading = some (.inlineList addr length))
  {e : ReadEnd} (hl : ∀ bytes, e = .data bytes → bytes.length = length)
include hr hl

theorem exec_inlineListReadEnd_outlived (h : (s.ctx c).state ≠ .admitting) :
    exec (.inlineListReadEnd c e) s = .next (react (handOverRecords (readEnded c s))) := by
  simp only [exec, execInlineListReadEnd, hr, (readHasLength_iff e length).mpr hl, if_true, h, if_false]
  rfl

theorem exec_inlineListReadEnd_admitting (h : (s.ctx c).state = .admitting) :
    exec (.inlineListReadEnd c e) s = .next (react (inlineEnds c e s)) := by
  simp only [exec, execInlineListReadEnd, hr, (readHasLength_iff e length).mpr hl, if_true, h]
  rfl

end

/-- A job reached during its admission ends when its read has, whatever the read brought (R110). -/
theorem inlineEnds_pending {c : CtxId} {s : State} {p : Pending} (h : (s.ctx c).pending = some p) (e : ReadEnd) :
    inlineEnds c e s = endPending c (readEnded c s) := by
  simp [inlineEnds, h, readEnded, State.modCtx]

section
variable {c : CtxId} {s : State} (h : (s.ctx c).pending = none)
include h

theorem inlineEnds_error (a : Addr) : inlineEnds c (.error a) s =
    enterCompleting c .bufferFault (s.setCtx c { s.ctx c with reading := none, stopCause := some .bufferFault }) := by
  simp [inlineEnds, h, State.modCtx]

theorem inlineEnds_data (bytes : List Byte) : inlineEnds c (.data bytes) s = inlineRead c bytes (readEnded c s) := by
  simp [inlineEnds, h, readEnded, State.modCtx]

theorem inlineEnds_malformed {bytes : List Byte} {i : Nat} (hp : parseSteps (s.ctx c).stepCount 0 bytes = .error i) :
    inlineEnds c (.data bytes) s =
      enterCompleting c .malformed (s.setCtx c { s.ctx c with reading := none, stopStep := some i }) := by
  rw [inlineEnds_data h]
  simp [inlineRead, hp, readEnded, State.modCtx]

variable {bytes : List Byte} {steps : List Step} (hp : parseSteps (s.ctx c).stepCount 0 bytes = .ok steps)
include hp

theorem inlineEnds_runs (hl : s.loop.state = .running) : inlineEnds c (.data bytes) s =
    runList c (s.setCtx c { s.ctx c with reading := none, list := .inline steps, state := .ready }) := by
  rw [inlineEnds_data h]
  simp [inlineRead, hp, endAdmission, hl, readEnded, State.modCtx]

theorem inlineEnds_loopDown (hl : s.loop.state ≠ .running) : inlineEnds c (.data bytes) s =
    enterCompleting c .loopDown (s.setCtx c { s.ctx c with
      reading := none, list := .inline steps, stopStep := some 0, stopCause := some .loopDown }) := by
  rw [inlineEnds_data h]
  simp [inlineRead, hp, endAdmission, hl, readEnded, State.modCtx]

end

/-! ### A staging read (R61) -/

section
variable {c : CtxId} {addr : Addr} {length : Nat} {s : State} (hr : (s.ctx c).reading = some (.staging addr length))
  {e : ReadEnd} (hl : ∀ bytes, e = .data bytes → bytes.length = length)
include hr hl

theorem exec_stagingReadEnd_outlived (h : (s.ctx c).state ≠ .ready) :
    exec (.stagingReadEnd c e) s = .next (react (handOverRecords (readEnded c s))) := by
  simp only [exec, execStagingReadEnd, hr, (readHasLength_iff e length).mpr hl, if_true, h, if_false]
  rfl

theorem exec_stagingReadEnd_ready (h : (s.ctx c).state = .ready) :
    exec (.stagingReadEnd c e) s = .next (react (stagingEnds c e s)) := by
  simp only [exec, execStagingReadEnd, hr, (readHasLength_iff e length).mpr hl, if_true, h]
  rfl

end

/-- The words of a staging read in their context (R61). -/
def staged (c : CtxId) (bytes : List Byte) (s : State) : State :=
  s.setCtx c { s.ctx c with reading := none, staging := wordsOf bytes }

theorem stagingEnds_data (c : CtxId) (bytes : List Byte) (s : State) :
    stagingEnds c (.data bytes) s = stagedClaim c (staged c bytes s) := by
  simp [stagingEnds, State.modCtx, staged]

/-- Staged words leave a job at its step (R84). -/
theorem currentStep_staged (c : CtxId) (bytes : List Byte) (s : State) :
    currentStep (staged c bytes s) c = currentStep s c := by
  rw [currentStep, staged, State.setCtx_ctx_self]
  rfl

/-- The claim of a WRITE whose words come from the out-buffer: a BLOCK_WRITE claims a chunk of at most 16 words (R87, R91). -/
theorem claimOperation_outBuffer {c : CtxId} {p : Step} {n : NodeId} {s : State} (hk : p.kind = .write ∨ p.kind = .blockWrite)
    (ho : p.source = .outBuffer) (hs : (s.ctx c).state = .ready) (h : s.loop.state = .running) :
    claimOperation c p n s = .waits (pushClaim
      { owner := .context c, node := n,
        command := some { op := .write, point := p.point, immediate := none,
                          count := if p.kind = .write then p.count else min 16 (s.ctx c).remaining } } s) := by
  have ready : s.modCtx c (fun x => { x with state := .ready }) = s := by
    rw [State.modCtx, ← hs]
    exact s.setCtx_ctx c
  rcases hk with hk | hk <;> simp [claimOperation, permits, h, hk, ho, StepKind.command, opCount, ready]

section
variable {c : CtxId} {s t : State} {p : Step} {n : NodeId} (hp : currentStep s c = some p) (hn : nodeAt? p.node = some n)
include hp hn

theorem stagedClaim_waits (h : claimOperation c p n s = .waits t) : stagedClaim c s = t := by
  simp [stagedClaim, hp, hn, h]

theorem stagedClaim_ends {e : StepEnd} (h : claimOperation c p n s = .ends e t) : stagedClaim c s = endStep c e t := by
  simp [stagedClaim, hp, hn, h]

end

/-! ### Records that wait for nothing (R120) -/

/-- Records for one ACTIVE ring, none of them with a read in progress, join its posting queue in their order. -/
theorem foldl_handNext_hands {k : RingId} (rs : List (CtxId × JobRecord)) {s : State} (ha : (s.compRing k).state = .active)
    (hn : s.handOver = []) (nodup : (rs.map Prod.fst).Nodup)
    (h : ∀ q ∈ rs, (s.ctx q.1).reading = none ∧ (s.ctx q.1).record = some q.2 ∧ (s.ctx q.1).cq = k) :
    let t := (rs.map Prod.fst).foldl handNext s
    (t.compRing k).queue = (s.compRing k).queue ++ rs.map (fun q => .job q.1 q.2) ∧ t.handOver = [] ∧
      ∀ q ∈ rs, (t.ctx q.1).record = none := by
  induction rs generalizing s with
  | nil => simp [hn]
  | cons q rs ih =>
    obtain ⟨hreading, hrecord, hcq⟩ := h q List.mem_cons_self
    rw [List.map_cons, List.nodup_cons] at nodup
    obtain ⟨notLater, nodup⟩ := nodup
    have other {d : CtxId × JobRecord} (hd : d ∈ rs) : d.1 ≠ q.1 := fun e => notLater (e ▸ List.mem_map_of_mem hd)
    have handed : handNext s q.1 = (s.setCtx q.1 { s.ctx q.1 with record := none }).setCompRing k
        { s.compRing k with queue := (s.compRing k).queue ++ [.job q.1 q.2] } := by
      rw [handNext_hands hreading (by simp [hn]), handJob_active hrecord (by rw [hcq]; exact ha), hcq]
    rw [List.map_cons, List.foldl_cons]
    obtain ⟨queue, none_left, records⟩ := ih (s := handNext s q.1) (by simp [handed, ha]) (by simp [handed, hn]) nodup
      fun d hd => by rw [handNext_ctx_ne (other hd)]; exact h d (List.mem_cons_of_mem _ hd)
    refine ⟨by rw [queue, handed]; simp, none_left, fun d hd => ?_⟩
    rcases List.mem_cons.mp hd with rfl | later
    · rw [foldl_handNext_ctx notLater, handed]
      simp
    · exact records d later

/-- Settles O35: a read that outlived its job by the `_outlived` equations, one that ends in its job by what it brought, and the
records that wait for nothing by `foldl_handNext_hands`. -/
theorem contextReadsEnd : Obligations.ContextReadsEnd := by
  unfold Obligations.ContextReadsEnd
  refine ⟨fun c addr length s hr => ⟨fun e hl => ⟨fun completing => ?_, fun p admitting pending unstopped => ?_⟩,
      fun admitting unreached => ?_⟩,
    fun c addr length s hr =>
      ⟨fun ready => ⟨fun a => ?_, fun bytes p n hl hp hn hk ho => ?_⟩, fun e hl completing => ?_⟩,
    fun k rs s ha hh nodup h => ?_⟩
  · exact exec_inlineListReadEnd_outlived hr hl (by simp [completing])
  · rw [exec_inlineListReadEnd_admitting hr hl admitting, inlineEnds_pending pending,
      endPending_eq (p := p) (by simpa using pending)]
    simp [readEnded, unstopped]
  · have ends {e : ReadEnd} (hl : ∀ bytes, e = .data bytes → bytes.length = length) :=
      exec_inlineListReadEnd_admitting hr hl admitting
    refine ⟨fun a => ?_, fun bytes hb => ?_⟩
    · rw [ends (by simp), inlineEnds_error unreached]
    · rw [ends (by rintro b ⟨⟩; exact hb)]
      refine ⟨fun i hp => by rw [inlineEnds_malformed unreached hp], fun steps hp => ⟨fun hl => ?_, fun hl => ?_⟩⟩
      · rw [inlineEnds_runs unreached hp hl]
      · rw [inlineEnds_loopDown unreached hp hl]
  · rw [exec_stagingReadEnd_ready hr (by simp) ready]
    rfl
  · have step : currentStep (staged c bytes s) c = some p := by rw [currentStep_staged, hp]
    have node : nodeAt? p.node = some n := by rw [hn, nodeAt?_nodeAddr]
    rw [exec_stagingReadEnd_ready hr (by rintro b ⟨⟩; exact hl) ready, stagingEnds_data]
    refine ⟨fun running => ?_, fun down => ?_⟩
    · rw [stagedClaim_waits step node (claimOperation_outBuffer hk ho (by simpa [staged] using ready) running)]
      simp [staged]
    · rw [stagedClaim_ends step node (claimOperation_loopDown down)]
      rfl
  · exact exec_stagingReadEnd_outlived hr hl (by simp [completing])
  · have handed := foldl_handNext_hands rs (s := s.setHandOver []) ha rfl nodup h
    rwa [← hh] at handed

end Sys2Proof.Machine
end

section
/-! PROOF. What a deadline, an abort or a ring deletion does to a job, by its state. -/

namespace Sys2Proof.Machine

/-! ### A job's deferral entries orphaned (R74) -/

@[simp] theorem pushClaim_ctx (op : Operation) (s : State) (c : CtxId) : (pushClaim op s).ctx c = s.ctx c := by
  unfold pushClaim
  split <;> rfl

/-- A WAITING entry orphaned leaves every job as it is. -/
theorem orphanEntry_ctx (d : DeferId) (s : State) (c : CtxId) : (orphanEntry d s).ctx c = s.ctx c := by
  unfold orphanEntry
  split
  · split
    · split
      · rw [pushClaim_ctx]
        rfl
      · rfl
    · exact freeEntry_ctx d s c
  · rfl

theorem orphanOwned_ctx (c : CtxId) (s : State) (d : CtxId) : (orphanOwned c s).ctx d = s.ctx d :=
  foldl_keeps (g := fun v => v.ctx d) (P := fun _ => True) (fun v e _ => orphanEntry_ctx e v d) _ trivial

/-- The entries orphaned are those that wait for the context when its ending is reported (R74). -/
theorem orphanOwned_eq (c : CtxId) (s : State) : orphanOwned c s =
    (List.finRange 16).foldl (fun (v : State) d => match s.entry d with
      | .waiting owner _ _ _ _ => if owner = c then orphanEntry d v else v
      | _ => v) s := by
  rw [orphanOwned, waitingOf, List.foldl_filter]
  congr 1
  funext v d
  cases s.entry d <;> simp

/-! ### A job reached (R116, R117) -/

/-- A job's context once an event has reached it: the first one stands (R117). -/
def Context.reached (p : Pending) (x : Context) : Context := { x with pending := some (x.pending.getD p) }

theorem setPending_eq (c : CtxId) (p : Pending) (s : State) : setPending c p s = s.setCtx c ((s.ctx c).reached p) := by
  have first : ((s.ctx c).pending <|> some p) = some ((s.ctx c).pending.getD p) := by
    cases (s.ctx c).pending <;> rfl
  rw [setPending, State.modCtx, first]
  rfl

/-- A job ends with the event that has just reached it, at the step it stands at (R117). -/
theorem endPending_reached {c : CtxId} {p : Pending} {x : Context} {s : State} (hx : s.ctx c = x.reached p)
    (hp : x.pending = none) (hs : x.stopStep = none) :
    endPending c s = enterCompleting c (pendingOutcome p) (s.setCtx c { x.reached p with stopStep := some x.index }) := by
  have pending : (s.ctx c).pending = some p := by rw [hx, Context.reached, hp]; rfl
  rw [endPending_eq pending, hx]
  simp [Context.reached, hs]

theorem withdrawQueued_setCtx (w : Operation → Bool) (s : State) (c : CtxId) (x : Context) :
    (withdrawQueued w s).setCtx c x = withdrawQueued w (s.setCtx c x) := rfl

section
variable {c : CtxId} {s : State} (p : Pending)

theorem reachJob_over (h : (s.ctx c).state = .free ∨ (s.ctx c).state = .completing) : reachJob c p s = s := by
  rcases h with h | h <;> simp [reachJob, h]

/-- A job in ADMITTING or ABORTING goes on to the end of what it waits for, which finds the pending outcome. -/
theorem reachJob_marked (h : (s.ctx c).state = .admitting ∨ (s.ctx c).state = .aborting) :
    reachJob c p s = s.setCtx c ((s.ctx c).reached p) := by
  rcases h with h | h <;> simp [reachJob, h, setPending_eq]

theorem reachJob_writing (h : (s.ctx c).state = .issued) (hw : (s.ctx c).inWrite ≠ none) :
    reachJob c p s = s.setCtx c { (s.ctx c).reached p with state := .aborting } := by
  have writing : (s.ctx c).inWrite.isSome = true := Option.isSome_iff_ne_none.mpr hw
  simp [reachJob, h, setPending_eq, State.modCtx, Context.reached, writing]

theorem reachJob_issued (h : (s.ctx c).state = .issued) (hw : (s.ctx c).inWrite = none) :
    reachJob c p s = (s.setCtx c { (s.ctx c).reached p with state := .aborting }).setWindow
      { s.window with tags := s.window.tags.map fun t => t.map fun tr =>
          if tr.operation.owner = .context c then { tr with withdrawn := true } else tr } := by
  simp [reachJob, h, setPending_eq, State.modCtx, Context.reached, hw, withdrawHeld]

variable (hp : (s.ctx c).pending = none) (hs : (s.ctx c).stopStep = none)
include hp hs

theorem reachJob_deferred (h : (s.ctx c).state = .deferred) :
    reachJob c p s = enterCompleting c (pendingOutcome p) ((orphanOwned c (s.setCtx c ((s.ctx c).reached p))).setCtx c
      { (s.ctx c).reached p with stopStep := some (s.ctx c).index }) := by
  have kept : (orphanOwned c (s.setCtx c ((s.ctx c).reached p))).ctx c = (s.ctx c).reached p := by
    rw [orphanOwned_ctx, State.setCtx_ctx_self]
  rw [← endPending_reached kept hp hs]
  simp [reachJob, h, setPending_eq]

/-- A READY or PAUSED job holds no tag: its claim, or its operation in BACKOFF, is withdrawn with no sending (R49). -/
theorem reachJob_queued (h : (s.ctx c).state = .ready ∨ (s.ctx c).state = .paused) :
    reachJob c p s = enterCompleting c (pendingOutcome p)
      (withdrawQueued (fun o => o.owner = .context c)
        (s.setCtx c { (s.ctx c).reached p with stopStep := some (s.ctx c).index })) := by
  have kept : (withdrawQueued (fun o => o.owner = .context c) (s.setCtx c ((s.ctx c).reached p))).ctx c =
      (s.ctx c).reached p := State.setCtx_ctx_self _ _ _
  have ends : reachJob c p s = endPending c
      (withdrawQueued (fun o => o.owner = .context c) (s.setCtx c ((s.ctx c).reached p))) := by
    rcases h with h | h <;> simp [reachJob, h, setPending_eq]
  rw [ends, endPending_reached kept hp hs, withdrawQueued_setCtx, State.setCtx_setCtx]

end

/-- Settles O33: one equation for the states that act alike, and the entries that wait for a context by `orphanOwned_eq`. -/
theorem reachedJobActsByState : Obligations.ReachedJobActsByState := by
  unfold Obligations.ReachedJobActsByState
  exact ⟨fun c p s => ⟨reachJob_over p, reachJob_marked p, reachJob_writing p, reachJob_issued p,
    fun h hp hs _ => reachJob_deferred p hp hs h, fun h hp hs _ => reachJob_queued p hp hs h⟩, orphanOwned_eq⟩

end Sys2Proof.Machine
end

section
/-! PROOF. DELETE SQ and ABORT JOB, the jobs they reach, and the ring that leaves the table. -/

namespace Sys2Proof.Machine

/-! ### Rings 1-7 (R126) -/

theorem jobRingAt?_outside {ring : Nat} (h : ¬ (1 ≤ ring ∧ ring ≤ 7)) : jobRingAt? ring = none := dif_neg (by omega)

theorem jobRingAt?_val {r : RingId} (h : 1 ≤ r.val) : jobRingAt? r.val = some r := dif_pos ⟨h, r.isLt⟩

theorem mem_jobRings (r : RingId) : r ∈ jobRings ↔ 1 ≤ r.val := by
  revert r
  decide

theorem jobRings_eq : jobRings = (List.finRange 8).filter fun r => 1 ≤ r.val := by decide

/-- The lowest of the rings 1-7 that a test names. -/
theorem find?_jobRings {p : RingId → Bool} {r : RingId} (h : 1 ≤ r.val) (hr : p r = true)
    (hl : ∀ q : RingId, 1 ≤ q.val → q.val < r.val → ¬ p q = true) : jobRings.find? p = some r := by
  rw [jobRings_eq, List.find?_filter]
  refine find?_finRange (by simp [h, hr]) fun q hq hn => ?_
  obtain ⟨hq1, hp⟩ : 1 ≤ q.val ∧ p q = true := by simpa using hn
  exact hl q hq1 hq hp

/-! ### The jobs that an event reaches (R117) -/

theorem mem_ringContexts (c : CtxId) : c ∈ ringContexts ↔ c.val < 12 := by
  revert c
  decide

theorem ringContexts_nodup : ringContexts.Nodup := by decide

theorem reachable_iff (x : Context) : x.reachable = true ↔ x.state ≠ .free ∧ x.state ≠ .completing := by
  simp [Context.reachable]

theorem mem_reachedBy {test : Context → Bool} {s : State} {c : CtxId} :
    c ∈ reachedBy test s ↔ Reachable s c ∧ test (s.ctx c) = true := by
  rw [reachedBy, List.mem_filter, mem_ringContexts, Bool.and_eq_true, reachable_iff, Reachable, and_assoc (a := c.val < 12)]

theorem reachedBy_nodup (test : Context → Bool) (s : State) : (reachedBy test s).Nodup := ringContexts_nodup.filter _

/-! ### DELETE SQ and ABORT JOB (R148, R164) -/

theorem exec_deleteSq {s : State} {ring : Nat} (h : dispatched s = some (.deleteSq ring)) :
    exec .deleteSq s = .next (react (deleteSq ring s)) := by
  simp [exec, execDeleteSq, h, taken]

theorem exec_abortJob {s : State} {ring jobId : Nat} (h : dispatched s = some (.abortJob ring jobId)) :
    exec .abortJob s = .next (react (abortJob ring jobId s)) := by
  simp [exec, execAbortJob, h, taken]

theorem deleteSq_malformed {ring : Nat} (h : ¬ (1 ≤ ring ∧ ring ≤ 7)) (s : State) :
    deleteSq ring s = endAdmin .malformed none s := by
  simp [deleteSq, jobRingAt?_outside h]

theorem deleteSq_notFound {r : RingId} {s : State} (h : 1 ≤ r.val) (ha : (s.subRing r).state = .absent) :
    deleteSq r.val s = endAdmin .notFound none s := by
  simp [deleteSq, jobRingAt?_val h, ha]

theorem deleteSq_drains {r : RingId} {s : State} (h : 1 ≤ r.val) (ha : (s.subRing r).state ≠ .absent) :
    deleteSq r.val s = reachAll (reachedBy (fun x => x.sq == r) s) .ringDeleted
      (waitAdmin (.deleteSq r (reachedBy (fun x => x.sq == r) s).length)
        (s.setSubRing r { s.subRing r with state := .draining })) := by
  simp [deleteSq, jobRingAt?_val h, ha]

/-- A job of a ring under a job id. -/
def isJob (r : RingId) (jobId : Nat) (x : Context) : Bool := x.sq == r && x.jobId.toNat == jobId

theorem isJob_iff (r : RingId) (jobId : Nat) (x : Context) :
    isJob r jobId x = true ↔ x.sq.val = r.val ∧ x.jobId.toNat = jobId := by
  simp [isJob, Fin.ext_iff]

theorem abortJob_malformed {ring : Nat} (h : ¬ (1 ≤ ring ∧ ring ≤ 7)) (jobId : Nat) (s : State) :
    abortJob ring jobId s = endAdmin .malformed none s := by
  simp [abortJob, jobRingAt?_outside h]

section
variable {r : RingId} {jobId : Nat} {s : State} (h : 1 ≤ r.val)
include h

theorem abortJob_notFound (hn : reachedBy (isJob r jobId) s = []) :
    abortJob r.val jobId s = endAdmin .notFound (some 0) s := by
  have none_reached : reachedBy (fun x => x.sq == r && x.jobId.toNat == jobId) s = [] := hn
  simp [abortJob, jobRingAt?_val h, none_reached, reachAll]

theorem abortJob_reaches (hn : reachedBy (isJob r jobId) s ≠ []) :
    abortJob r.val jobId s = endAdmin .ok (some (reachedBy (isJob r jobId) s).length)
      (reachAll (reachedBy (isJob r jobId) s) .aborted s) := by
  have some_reached : reachedBy (fun x => x.sq == r && x.jobId.toNat == jobId) s ≠ [] := hn
  simp only [abortJob, jobRingAt?_val h, if_neg some_reached]
  rfl

end

/-! ### A ring whose deletion has nothing left to wait for (R130) -/

theorem deleteReached_iff (s : State) (r : RingId) (n : Nat) :
    deleteReached s r = some n ↔ adminWait s = some (.deleteSq r n) := by
  unfold deleteReached
  split
  · rename_i q reached hw
    by_cases h : q = r <;> simp [hw, h]
  · rename_i hw
    exact ⟨fun h => by simp at h, fun h => absurd h (hw r n)⟩

theorem deleteReached_isSome_iff (s : State) (r : RingId) :
    (deleteReached s r).isSome = true ↔ ∃ n, adminWait s = some (.deleteSq r n) := by
  simp only [Option.isSome_iff_exists, deleteReached_iff]

/-- The ring holds no job, no fetch read of it is in progress, and its deletion is under way, or awaited in a ring that has
become FAULTED (assumption 10). -/
theorem drained_iff (s : State) (r : RingId) :
    drained s r = true ↔
      ((s.subRing r).state = .draining ∨ (s.subRing r).state = .faulted ∧ ∃ n, adminWait s = some (.deleteSq r n)) ∧
        (s.subRing r).jobsHeld = 0 ∧ ∀ read, s.rings.fetch = some read → read.ring ≠ r := by
  have idle : (!s.rings.fetch.any fun f => f.ring == r) = true ↔ ∀ read, s.rings.fetch = some read → read.ring ≠ r := by
    cases s.rings.fetch <;> simp
  simp only [drained, Bool.and_eq_true, Bool.or_eq_true, beq_iff_eq, deleteReached_isSome_iff, idle, and_assoc]

/-- The table without a ring: its record and its credits are 0 (R130). -/
def withoutSubRing (r : RingId) (s : State) : State :=
  s.setRings { s.rings with sub := vset s.rings.sub r {}, credits := vset s.rings.credits r 0 }

theorem removeSubRing_ends {s : State} {r : RingId} {n : Nat} (h : adminWait s = some (.deleteSq r n)) :
    removeSubRing r s = endAdmin .ok (some n) (withoutSubRing r s) := by
  simp [removeSubRing, (deleteReached_iff s r n).mpr h, withoutSubRing]

theorem removeSubRing_unawaited {s : State} {r : RingId} (h : ¬ ∃ n, adminWait s = some (.deleteSq r n)) :
    removeSubRing r s = withoutSubRing r s := by
  rw [← deleteReached_isSome_iff, Option.not_isSome_iff_eq_none] at h
  simp [removeSubRing, h, withoutSubRing]

theorem settleDrained_none {s : State} (h : ∀ r : RingId, 1 ≤ r.val → ¬ drained s r = true) :
    settleDrained s = none := by
  have none_found : jobRings.find? (drained s) = none :=
    List.find?_eq_none.mpr fun r hr => h r ((mem_jobRings r).mp hr)
  simp [settleDrained, none_found]

theorem settleDrained_lowest {s : State} {r : RingId} (h : 1 ≤ r.val) (hr : drained s r = true)
    (hl : ∀ q : RingId, 1 ≤ q.val → q.val < r.val → ¬ drained s q = true) :
    settleDrained s = some (removeSubRing r s) := by
  simp [settleDrained, find?_jobRings h hr hl]

/-- Settles O21: the contexts reached are those of `reachedBy`, and the ring that leaves the table is the lowest that is
`drained`. -/
theorem ringDeletionAndAbortReachJobs : Obligations.RingDeletionAndAbortReachJobs := by
  unfold Obligations.RingDeletionAndAbortReachJobs
  refine ⟨⟨fun ring s hd => ?_, fun ring jobId s hd => ?_⟩, fun cs p s => rfl, fun s => ?_⟩
  · rw [exec_deleteSq hd]
    refine ⟨fun h => by rw [deleteSq_malformed h], ?_⟩
    rintro r h rfl
    refine ⟨fun ha => by rw [deleteSq_notFound h ha], fun ha =>
      ⟨reachedBy (fun x => x.sq == r) s, reachedBy_nodup _ s, fun c => ?_, by rw [deleteSq_drains h ha]⟩⟩
    rw [mem_reachedBy, beq_iff_eq]
  · rw [exec_abortJob hd]
    refine ⟨fun h => by rw [abortJob_malformed h], fun h h7 => ?_⟩
    obtain ⟨r, rfl⟩ : ∃ r : RingId, r.val = ring := ⟨⟨ring, by omega⟩, rfl⟩
    refine ⟨reachedBy (isJob r jobId) s, reachedBy_nodup _ s, fun c => ?_, fun hn => by rw [abortJob_notFound h hn],
      fun hn => by rw [abortJob_reaches h hn]⟩
    rw [mem_reachedBy, isJob_iff]
  · intro awaited done
    have done_iff (r : RingId) : done r ↔ 1 ≤ r.val ∧ drained s r = true := by rw [drained_iff]
    refine ⟨fun none_done => settleDrained_none fun r h hr => none_done r ((done_iff r).mpr ⟨h, hr⟩),
      fun r hr lower => ?_⟩
    obtain ⟨h, drained_r⟩ := (done_iff r).mp hr
    rw [settleDrained_lowest h drained_r fun q h1 hq hn => lower q hq ((done_iff q).mpr ⟨h1, hn⟩)]
    exact ⟨fun n hw => by rw [removeSubRing_ends hw]; rfl, fun hw => by rw [removeSubRing_unawaited hw]; rfl⟩

end Sys2Proof.Machine
end

section
/-! PROOF. A completion record's write begins, its bytes, and what its end releases. -/

namespace Sys2Proof.Machine

/-! ### The end of a write (R125, R129, R131, R134) -/

/-- The record just written brings a message: the count is reached, or the ring has no moderation time (R134). -/
theorem Moderation.record_due_iff (m : Moderation) (now : Instant) :
    (m.record now).due = true ↔ m.unsignalled + 1 = m.count ∨ m.time = 0 := by
  simp [Moderation.due, Moderation.record]

theorem Moderation.written_eq (m : Moderation) (now : Instant) :
    m.written now = if m.unsignalled + 1 = m.count ∨ m.time = 0 then { m with unsignalled := 0, timer := none }
      else { m with
        unsignalled := m.unsignalled + 1
        timer := if m.unsignalled = 0 ∧ 0 < m.time then some (now + m.time) else m.timer } := by
  simp only [Moderation.written, Moderation.record_due_iff]
  rfl

theorem sendMessage_setCompRing (v : Vec) (k : RingId) (x : CompRing) (s : State) :
    sendMessage v (s.setCompRing k x) = (sendMessage v s).setCompRing k x := by
  unfold sendMessage
  rw [State.setCompRing_host]
  split <;> rfl

/-- A ring with its head record written, and moderation told of it, before the record's source is (R125, R134). -/
def recordCounted (k : RingId) (s : State) : State :=
  messageIfDue (s.compRing k).vector (s.compRing k).moderation (s.setCompRing k (compAdvanced (s.compRing k) s.timebase))

theorem recordCounted_eq (k : RingId) (s : State) :
    recordCounted k s =
      (if (s.compRing k).moderation.unsignalled + 1 = (s.compRing k).moderation.count ∨ (s.compRing k).moderation.time = 0
        then sendMessage (s.compRing k).vector s else s).setCompRing k (compAdvanced (s.compRing k) s.timebase) := by
  simp only [recordCounted, messageIfDue, State.setCompRing_timebase, Moderation.record_due_iff, sendMessage_setCompRing]
  split <;> rfl

theorem exec_completionRecordWritten {k : RingId} {p : PostedRecord} {rest : List PostedRecord} {s : State}
    (hw : (s.compRing k).writing ≠ none) (hq : (s.compRing k).queue = p :: rest) :
    exec (.completionRecordWritten k) s = .next (react (releaseSource p (recordCounted k s))) := by
  simp only [exec, execCompletionRecordWritten, Option.isSome_iff_ne_none.mpr hw, if_true, taken, completionWritten, hq,
    recordCounted]

/-- The rings and the message flags apart, a written record changes nothing by itself. -/
theorem recordCounted_frame (k : RingId) (s : State) :
    (recordCounted k s).admin = s.admin ∧ (∀ c, (recordCounted k s).ctx c = s.ctx c) ∧
      ∀ r, (recordCounted k s).subRing r = s.subRing r := by
  obtain ⟨h, sent⟩ := sendMessage_eq (s.compRing k).vector s
  rw [recordCounted_eq, sent]
  split <;> exact ⟨rfl, fun _ => rfl, fun _ => rfl⟩

theorem releaseSource_admin (a : AdminRecord) (k : RingId) (s : State) :
    releaseSource (.admin a) (recordCounted k s) = (recordCounted k s).setAdmin { s.admin with job := none } := by
  obtain ⟨admin, -, -⟩ := recordCounted_frame k s
  simp only [releaseSource, clearAdmin, admin]

theorem releaseSource_job {c : CtxId} (h : c.val < 12) (j : JobRecord) (k : RingId) (s : State) :
    releaseSource (.job c j) (recordCounted k s) = ((recordCounted k s).setCtx c {}).setSubRing (s.ctx c).sq
      { s.subRing (s.ctx c).sq with jobsHeld := (s.subRing (s.ctx c).sq).jobsHeld - 1 } := by
  obtain ⟨-, ctx, subRing⟩ := recordCounted_frame k s
  rw [releaseSource, freeContext_ring h, ctx, subRing]

/-- The ring's place after its head record in the words of R125. -/
theorem compAdvanced_eq {r : CompRing} {p : PostedRecord} {rest : List PostedRecord} (h : r.queue = p :: rest) (now : Instant) :
    compAdvanced r now = { r with
      writing := none, queue := rest, producer := if r.producer + 1 = r.size then 0 else r.producer + 1,
      phase := if r.producer + 1 = r.size then !r.phase else r.phase, moderation := r.moderation.written now } := by
  simp only [compAdvanced, h]
  rfl

/-! ### The beginning of a write (R131) -/

/-- A record can be written: its ring is ACTIVE, not full, and writes none. -/
theorem canPost_iff (s : State) (k : RingId) :
    canPost s k = true ↔ (s.compRing k).state = .active ∧
      ¬ ((s.compRing k).size = 0 ∨ ((s.compRing k).producer + 1) % (s.compRing k).size = (s.compRing k).consumer) ∧
      (s.compRing k).writing = none ∧ (s.compRing k).queue ≠ [] := by
  simp [canPost, ringFull, and_assoc]

theorem settlePost_none {s : State} (h : ∀ k, ¬ canPost s k = true) : settlePost s = none := by
  have none_found : allRings.find? (canPost s) = none := List.find?_eq_none.mpr fun k _ => h k
  simp [settlePost, none_found]

theorem settlePost_lowest {s : State} {k : RingId} (hk : canPost s k = true)
    (hl : ∀ j : RingId, j.val < k.val → ¬ canPost s j = true) : settlePost s = some (beginPost k s) := by
  simp [settlePost, allRings, find?_finRange hk hl]

theorem beginPost_eq {s : State} {k : RingId} {p : PostedRecord} {rest : List PostedRecord}
    (h : (s.compRing k).queue = p :: rest) :
    beginPost k s = s.setCompRing k { s.compRing k with
      writing := some { addr := (s.compRing k).base + BitVec.ofNat 64 (32 * (s.compRing k).producer),
                        bytes := completionBytes p (s.compRing k).phase, lastWord := 28 } } := by
  simp only [beginPost, h, recordAddr, Nat.mul_comm 32]

/-! ### The bytes of a record (R196, R198)

A record is its fields one behind another: a field is read by skipping those that stand before it. -/

@[simp] theorem zeros_length (n : Nat) : (zeros n).length = n := List.length_replicate

theorem singleton_eq_leBytes (b : Byte) : [b] = leBytes 1 b.toNat := by simp [leBytes]

@[simp] theorem fieldAt_leBytes_append (n v : Nat) (rest : List Byte) :
    fieldAt (leBytes n v ++ rest) 0 n = v % 256 ^ n := by
  rw [fieldAt_append_left _ (by simp), fieldAt_leBytes]

@[simp] theorem fieldAt_zeros_append (n : Nat) (rest : List Byte) : fieldAt (zeros n ++ rest) 0 n = 0 := by
  rw [fieldAt_append_left _ (by simp), fieldAt_zeros]

@[simp] theorem fieldAt_leBytes_skip {n i : Nat} (v m : Nat) (rest : List Byte) (h : n ≤ i) :
    fieldAt (leBytes n v ++ rest) i m = fieldAt rest (i - n) m := by
  rw [fieldAt_append_right _ _ (by simpa using h), leBytes_length]

@[simp] theorem fieldAt_zeros_skip {n i : Nat} (m : Nat) (rest : List Byte) (h : n ≤ i) :
    fieldAt (zeros n ++ rest) i m = fieldAt rest (i - n) m := by
  rw [fieldAt_append_right _ _ (by simpa using h), zeros_length]

theorem JobOutcome.code_lt (o : JobOutcome) : o.code < 256 := by cases o <;> decide
theorem AdminOutcome.code_lt (o : AdminOutcome) : o.code < 256 := by cases o <;> decide
theorem Cause.code_lt (c : Cause) : c.code < 256 := by cases c <;> decide

theorem causeCode_lt (c : Option Cause) : causeCode c < 256 := by
  cases c with
  | none => decide
  | some c => exact c.code_lt

theorem causeCode_eq (c : Option Cause) : causeCode c = (c.map Cause.code).getD 0 := by cases c <;> rfl
theorem stepCode_eq (i : Option Nat) : stepCode i = i.getD 0xFFFF := by cases i <;> rfl

/-- Settles O57: the end of a write by `recordCounted_eq`, its beginning by the lowest ring that can post, and each field of a
record by the bytes that stand before it. -/
theorem completionRecordWrittenReleases : Obligations.CompletionRecordWrittenReleases := by
  unfold Obligations.CompletionRecordWrittenReleases
  refine ⟨?_, fun s => ?_, fun c r phase => ?_, fun a phase => ?_, by decide, by decide, by decide⟩
  · intro k p rest s r hw hq wraps m sends v
    have counted : recordCounted k s = v := by rw [recordCounted_eq, compAdvanced_eq hq, Moderation.written_eq]
    rw [exec_completionRecordWritten hw hq]
    refine ⟨?_, ?_⟩
    · rintro a rfl
      rw [releaseSource_admin, counted]
    · rintro c j rfl ring
      rw [releaseSource_job ring, counted]
  · intro ready
    have ready_iff (k : RingId) : canPost s k = true ↔ ready k := canPost_iff s k
    refine ⟨fun h => settlePost_none fun k hk => h k ((ready_iff k).mp hk), ?_⟩
    intro k p rest r hk hl hq
    rw [settlePost_lowest ((ready_iff k).mpr hk) fun j hj hn => hl j hj ((ready_iff j).mp hn), beginPost_eq hq]
  · intro b field
    have field_eq (i n : Nat) : field i n = fieldAt (jobRecordBytes r phase) i n := littleEndian_eq _ i n
    have jobId : r.jobId.toNat < 65536 := r.jobId.isLt
    have ring : r.ring.val < 256 := by omega
    have outcome := r.outcome.code_lt
    have endTime : r.endTime.toNat < 4294967296 := r.endTime.isLt
    have phaseTag : phase.toNat < 256 := Nat.lt_trans phase.toNat_lt (by decide)
    have firstCause : (r.firstContinued.map fun f => f.cause.code).getD 0 =
        causeCode (r.firstContinued.map FirstFault.cause) := by
      cases r.firstContinued <;> rfl
    simp only [field_eq, b, completionBytes, jobRecordBytes, List.append_assoc]
    simp [fieldAt_leBytes, stepCode_eq, ← causeCode_eq, firstCause, jobId, ring, outcome, causeCode_lt, endTime, phaseTag]
  · intro b field
    have field_eq (i n : Nat) : field i n = fieldAt (adminRecordBytes a phase) i n := littleEndian_eq _ i n
    have tag : a.tag.toNat < 65536 := a.tag.isLt
    have outcome := a.outcome.code_lt
    have code : a.code.toNat < 256 := a.code.isLt
    have endTime : a.endTime.toNat < 4294967296 := a.endTime.isLt
    have present : a.detail.isSome.toNat < 256 := Nat.lt_trans a.detail.isSome.toNat_lt (by decide)
    have phaseTag : phase.toNat < 256 := Nat.lt_trans phase.toNat_lt (by decide)
    simp only [field_eq, b, completionBytes, adminRecordBytes, singleton_eq_leBytes, List.append_assoc]
    simp [fieldAt_leBytes, tag, outcome, code, endTime, present, phaseTag]

end Sys2Proof.Machine
end

section
/-! SUPPORT. What the operand fields of a command name (R196), list references taken and released (R102), and the attention
entry under a key. -/

namespace Sys2Proof.Machine

/-! ### Operands -/

theorem listAt?_eq_some_iff {id : Nat} {l : ListId} : listAt? id = some l ↔ l.val = id := by
  unfold listAt?
  split <;> simp [Fin.ext_iff] <;> omega

theorem slotAt?_eq_some_iff {slot : Nat} {k : SlotId} : slotAt? slot = some k ↔ k.val = slot := by
  unfold slotAt?
  split <;> simp [Fin.ext_iff] <;> omega

theorem vectorAt?_eq_some_iff {vector : Nat} {v : Vec} : vectorAt? vector = some v ↔ v.val = vector := by
  unfold vectorAt?
  split <;> simp [Fin.ext_iff] <;> omega

theorem nodeAt?_eq_some_iff {addr : Nat} {n : NodeId} : nodeAt? addr = some n ↔ n.val + 1 = addr := by
  unfold nodeAt?
  split <;> simp [Fin.ext_iff] <;> omega

theorem slotAt?_outside {slot : Nat} (h : 7 < slot) : slotAt? slot = none := dif_neg (by omega)

/-- A key is named by its node's loop address and its source (R158). -/
theorem keyAt?_eq_some_iff {node source : Nat} {key : Key} :
    keyAt? node source = some key ↔ key.node.val + 1 = node ∧ key.source.val = source := by
  obtain ⟨n, i⟩ := key
  simp only [← nodeAt?_eq_some_iff]
  unfold keyAt?
  cases nodeAt? node with
  | none => simp
  | some m =>
    by_cases h : source < 8
    · simp [h, Fin.ext_iff, eq_comm]
    · simp [h]
      omega

theorem keyAt?_key {node source : Nat} {n : NodeId} {i : Source} (hn : n.val + 1 = node) (hi : i.val = source) :
    keyAt? node source = some ⟨n, i⟩ := keyAt?_eq_some_iff.mpr ⟨hn, hi⟩

theorem keyAt?_outside {node source : Nat} (h : ¬ (1 ≤ node ∧ node ≤ 30 ∧ source ≤ 7)) : keyAt? node source = none := by
  rw [Option.eq_none_iff_forall_ne_some]
  intro key hk
  obtain ⟨hn, hi⟩ := keyAt?_eq_some_iff.mp hk
  omega

theorem entryKindOf_eq_some_iff {kind : Nat} {k : EntryKind} :
    entryKindOf kind = some k ↔ kind = 1 ∧ k = .single ∨ kind = 2 ∧ k = .repeat := by
  unfold entryKindOf
  split <;> simp_all [eq_comm]

theorem fullPolicyOf_eq_some_iff {policy : Nat} {p : FullPolicy} :
    fullPolicyOf policy = some p ↔ policy = 1 ∧ p = .skip ∨ policy = 2 ∧ p = .suspend := by
  unfold fullPolicyOf
  split <;> simp_all [eq_comm]

/-- The response list field names an absent list by FFh, and a list by its id (R196). -/
theorem responseList_eq_some_iff {list : Nat} {l : Option ListId} :
    responseList list = some l ↔ list = 0xFF ∧ l = none ∨ ∃ i : ListId, i.val = list ∧ l = some i := by
  unfold responseList
  split
  · subst list
    simp only [Option.some.injEq, true_and]
    refine ⟨fun h => .inl h.symm, ?_⟩
    rintro (h | ⟨i, hi, -⟩)
    · exact h.symm
    · omega
  · next h =>
    simp only [Option.map_eq_some_iff, listAt?_eq_some_iff, h, false_and, false_or, eq_comm (a := l)]

theorem responseList_passes {list : Nat} (h : list ≤ 63 ∨ list = 0xFF) : ∃ l, responseList list = some l := by
  rcases h with h | h
  · exact ⟨some ⟨list, by omega⟩, responseList_eq_some_iff.mpr (.inr ⟨_, rfl, rfl⟩)⟩
  · exact ⟨none, responseList_eq_some_iff.mpr (.inl ⟨h, rfl⟩)⟩

/-! ### List references (R102) -/

theorem takeReference_loaded {l : ListId} {s : State} {steps : List Step} {words refs : Nat} {out : Bool}
    (h : s.stored l = .loaded steps words out refs) :
    takeReference l s = s.setStored l (.loaded steps words out (refs + 1)) := by
  simp only [takeReference, h]

theorem releaseReference_loaded {l : ListId} {s : State} {steps : List Step} {words refs : Nat} {out : Bool}
    (h : s.stored l = .loaded steps words out refs) :
    releaseReference l s = s.setStored l (.loaded steps words out (refs - 1)) := by
  simp only [releaseReference, h]

/-- An id that is not LOADED is EMPTY or LOADING (R99). -/
theorem StoredList.notLoaded_cases {x : StoredList} (h : ∀ steps words out refs, x ≠ .loaded steps words out refs) :
    x = .empty ∨ ∃ count, x = .loading count := by
  cases x with
  | empty => exact .inl rfl
  | loading count => exact .inr ⟨count, rfl⟩
  | loaded steps words out refs => exact absurd rfl (h steps words out refs)

theorem releaseReference_notLoaded {l : ListId} {s : State}
    (h : ∀ steps words out refs, s.stored l ≠ .loaded steps words out refs) : releaseReference l s = s := by
  rcases StoredList.notLoaded_cases h with h | ⟨count, h⟩ <;> simp only [releaseReference, h]

/-- A reference released changes the list store only. -/
theorem releaseReference_eq (l : ListId) (s : State) : ∃ x, releaseReference l s = s.setLists x := by
  unfold releaseReference
  split
  · exact ⟨_, rfl⟩
  · exact ⟨s.lists, rfl⟩

@[simp] theorem releaseReference_admin (l : ListId) (s : State) : (releaseReference l s).admin = s.admin := by
  obtain ⟨x, h⟩ := releaseReference_eq l s
  rw [h, State.setLists_admin]

/-- The list store that a reference released leaves is that of any state with the same store. -/
theorem releaseReference_lists_congr {l : ListId} {s t : State} (h : s.lists = t.lists) :
    (releaseReference l s).lists = (releaseReference l t).lists := by
  have stored : s.stored l = t.stored l := by rw [State.stored, h, State.stored]
  unfold releaseReference
  rw [← stored]
  split
  · exact congrArg (vset · l _) h
  · exact h

/-! ### The entry under a key (R165) -/

theorem attentionEntry_eq_none_iff {s : State} {key : Key} :
    s.attentionEntry key = none ↔ ∀ e ∈ s.attention.table, e.key ≠ key := by
  simp [State.attentionEntry, List.find?_eq_none]

theorem attentionEntry_isSome_iff {s : State} {key : Key} :
    (s.attentionEntry key).isSome = true ↔ ∃ e ∈ s.attention.table, e.key = key := by
  simp [State.attentionEntry]

theorem attentionEntry_mem {s : State} {key : Key} {e : AttentionEntry} (h : s.attentionEntry key = some e) :
    e ∈ s.attention.table := List.mem_of_find?_eq_some h

/-- An entry that is neither DISARMED nor ARMED is busy (R166). -/
theorem EntryState.busy_cases {x : EntryState} (hd : x ≠ .disarmed) (ha : x ≠ .armed) :
    x = .pending ∨ x = .running ∨ x = .posting := by
  cases x with
  | disarmed => exact absurd rfl hd
  | armed => exact absurd rfl ha
  | pending => exact .inl rfl
  | running => exact .inr (.inl rfl)
  | posting => exact .inr (.inr rfl)

end Sys2Proof.Machine
end

section
/-! PROOF. SET PARAMETERS: its two checks, and the values it sets. -/

namespace Sys2Proof.Machine

theorem exec_setParameters {s : State} {sel : Byte} {vals : Params} (h : dispatched s = some (.setParameters sel vals)) :
    exec .setParameters s = .next (react (setParameters sel vals s)) := by
  simp [exec, execSetParameters, h, taken]

/-- The first number of an increasing list that a test names. -/
theorem find?_increasing {l : List Nat} {test : Nat → Bool} {p : Nat} (hl : l.Pairwise (· < ·)) (hp : p ∈ l)
    (ht : test p = true) (hlow : ∀ q ∈ l, q < p → test q = false) : l.find? test = some p := by
  induction l with
  | nil => cases hp
  | cons a l ih =>
    obtain ⟨ha, hl⟩ := List.pairwise_cons.mp hl
    rcases List.mem_cons.mp hp with rfl | hp
    · exact List.find?_cons_of_pos ht
    · rw [List.find?_cons_of_neg (by simp [hlow a List.mem_cons_self (ha p hp)])]
      exact ih hl hp fun q hq => hlow q (List.mem_cons_of_mem a hq)

theorem mem_paramNumbers {p : Nat} : p ∈ paramNumbers ↔ 1 ≤ p ∧ p ≤ 7 := by
  simp only [paramNumbers, List.mem_cons, List.not_mem_nil, or_false]
  omega

/-- The parameters that change only while the loop is OFF (R146). -/
theorem mem_lockedNumbers {p : Nat} : p ∈ [1, 2, 3, 4, 5] ↔ 1 ≤ p ∧ p ≤ 5 := by
  simp only [List.mem_cons, List.not_mem_nil, or_false]
  omega

theorem badParam_eq_some {sel : Byte} {vals : Params} {p : Nat} (h1 : 1 ≤ p) (h7 : p ≤ 7) (hs : sel.getLsbD p = true)
    (hp : ¬ ParamAllowed p (vals.value p))
    (hlow : ∀ q, 1 ≤ q → q < p → sel.getLsbD q = true → ParamAllowed q (vals.value q)) : badParam sel vals = some p := by
  refine find?_increasing (by decide) (mem_paramNumbers.mpr ⟨h1, h7⟩) ?_ fun q hq hqp => ?_
  · rw [← paramInRange_iff p _ h1 h7] at hp
    simp [hs, hp]
  · obtain ⟨hq1, hq7⟩ := mem_paramNumbers.mp hq
    cases hsq : sel.getLsbD q with
    | false => rfl
    | true => simp [(paramInRange_iff q _ hq1 hq7).mpr (hlow q hq1 hqp hsq)]

theorem badParam_eq_none {sel : Byte} {vals : Params}
    (h : ∀ p, 1 ≤ p → p ≤ 7 → sel.getLsbD p = true → ParamAllowed p (vals.value p)) : badParam sel vals = none := by
  refine List.find?_eq_none.mpr fun p hp => ?_
  obtain ⟨h1, h7⟩ := mem_paramNumbers.mp hp
  cases hs : sel.getLsbD p with
  | false => simp
  | true => simp [(paramInRange_iff p _ h1 h7).mpr (h p h1 h7 hs)]

theorem lockedParam_eq_some {sel : Byte} {p : Nat} (h1 : 1 ≤ p) (h5 : p ≤ 5) (hs : sel.getLsbD p = true)
    (hlow : ∀ q, 1 ≤ q → q < p → sel.getLsbD q = false) : lockedParam sel = some p :=
  find?_increasing (by decide) (mem_lockedNumbers.mpr ⟨h1, h5⟩) hs fun q hq => hlow q (mem_lockedNumbers.mp hq).1

theorem lockedParam_eq_none {sel : Byte} (h : ∀ p, 1 ≤ p → p ≤ 5 → sel.getLsbD p = false) : lockedParam sel = none := by
  refine List.find?_eq_none.mpr fun p hp => ?_
  obtain ⟨h1, h5⟩ := mem_lockedNumbers.mp hp
  simp [h p h1 h5]

/-- Each parameter is chosen by its own selection (R146). -/
theorem Params.choose_value (old new : Params) (selected : Nat → Bool) {p : Nat} (h1 : 1 ≤ p) (h7 : p ≤ 7) :
    (old.choose new selected).value p = if selected p then new.value p else old.value p := by
  rcases (by omega : p = 1 ∨ p = 2 ∨ p = 3 ∨ p = 4 ∨ p = 5 ∨ p = 6 ∨ p = 7) with
    rfl | rfl | rfl | rfl | rfl | rfl | rfl <;> rfl

theorem setParameters_malformed {sel : Byte} {vals : Params} {p : Nat} (h : badParam sel vals = some p) (s : State) :
    setParameters sel vals s = endAdmin .malformed (some p) s := by
  simp [setParameters, h]

theorem setParameters_badState {sel : Byte} {vals : Params} {p : Nat} {s : State} (hb : badParam sel vals = none)
    (hl : s.loop.state ≠ .off) (h : lockedParam sel = some p) :
    setParameters sel vals s = endAdmin .badState (some p) s := by
  simp [setParameters, hb, hl, h]

theorem setParameters_sets {sel : Byte} {vals : Params} {s : State} (hb : badParam sel vals = none)
    (h : s.loop.state = .off ∨ lockedParam sel = none) :
    setParameters sel vals s = endAdmin .ok none (s.setParams (s.params.choose vals fun p => sel.getLsbD p)) := by
  rcases h with h | h <;> simp [setParameters, hb, h]

/-- Settles O19: the first selected value out of range, then the lowest locked parameter, then the values chosen. -/
theorem setParametersChecksThenSets : Obligations.SetParametersChecksThenSets := by
  unfold Obligations.SetParametersChecksThenSets
  intro sel vals s hd
  rw [exec_setParameters hd]
  refine ⟨fun p h1 h7 hs hp hlow => by rw [setParameters_malformed (badParam_eq_some h1 h7 hs hp hlow)], fun allowed => ?_⟩
  have passes := badParam_eq_none allowed
  refine ⟨fun hl p h1 h5 hs hlow => by rw [setParameters_badState passes hl (lockedParam_eq_some h1 h5 hs hlow)],
    fun h => ?_⟩
  rw [setParameters_sets passes (h.imp_right lockedParam_eq_none)]
  exact ⟨_, rfl, fun p h1 h7 => Params.choose_value _ _ _ h1 h7⟩

end Sys2Proof.Machine
end

section
/-! PROOF. IDENTIFY and NODE TABLE READ: their checks, their ends, and the bytes they write. -/

namespace Sys2Proof.Machine

theorem exec_identify {s : State} {buffer : Addr} (h : dispatched s = some (.identify buffer)) :
    exec .identify s = .next (react (identify buffer s)) := by
  simp [exec, execIdentify, h, taken]

theorem exec_nodeTableRead {s : State} {buffer : Addr} (h : dispatched s = some (.nodeTableRead buffer)) :
    exec .nodeTableRead s = .next (react (nodeTableRead buffer s)) := by
  simp [exec, execNodeTableRead, h, taken]

theorem exec_adminBufferWriteEnd {s : State} {w : HostWrite} {d : Option Nat} (h : adminWait s = some (.bufferWrite w d))
    (result : WriteEnd) : exec (.adminBufferWriteEnd result) s = .next (react (bufferWritten result d s)) := by
  simp [exec, execAdminBufferWriteEnd, h, taken]

/-! ### Bytes one behind another (R196) -/

@[simp] theorem fieldAt_byte (b : Byte) (rest : List Byte) : fieldAt (b :: rest) 0 1 = b.toNat := by
  simp [fieldAt, leNat]

@[simp] theorem fieldAt_byte_skip {i : Nat} (b : Byte) (rest : List Byte) (m : Nat) (h : 1 ≤ i) :
    fieldAt (b :: rest) i m = fieldAt rest (i - 1) m := fieldAt_append_right (a := [b]) rest m h

/-- A table of records of one size has that size for each of them. -/
theorem length_flatMap_records {α β : Type} {size : Nat} (f : α → List β) (hf : ∀ a, (f a).length = size) (l : List α) :
    (l.flatMap f).length = size * l.length := by
  induction l with
  | nil => rfl
  | cons a l ih => rw [List.flatMap_cons, List.length_append, hf, ih, List.length_cons, Nat.mul_succ, Nat.add_comm]

/-- A record of a table of records of one size begins at its index times the size. -/
theorem drop_flatMap_records {α β : Type} {size : Nat} (f : α → List β) (hf : ∀ a, (f a).length = size) (l : List α)
    (i : Nat) (hi : i < l.length) :
    (l.flatMap f).drop (size * i) = f l[i] ++ (l.drop (i + 1)).flatMap f := by
  induction l generalizing i with
  | nil => simp at hi
  | cons a l ih =>
    cases i with
    | zero => simp
    | succ i =>
      have skip : (f a ++ l.flatMap f).drop (size * (i + 1)) = (l.flatMap f).drop (size * i) := by
        rw [List.drop_append, List.drop_eq_nil_of_le (by rw [hf, Nat.mul_succ]; omega), hf, Nat.mul_succ,
          Nat.add_sub_cancel, List.nil_append]
      rw [List.flatMap_cons, skip, ih i (by simpa using hi)]
      rfl

/-! ### The identity block (R145, R200) -/

theorem LoopState.code_lt (l : LoopState) : l.code < 256 := by cases l <;> decide
theorem RateCode.code_lt (r : RateCode) : r.code < 256 := by cases r <;> decide
theorem NodeState.code_lt (x : NodeState) : x.code < 256 := by cases x <;> decide

theorem freeSlots_lt (lists : Vector StoredList 64) : freeSlots lists < 65536 :=
  Nat.lt_of_le_of_lt (Nat.sub_le _ _) (by decide)

theorem identityBytes_length (s : State) : (identityBytes s).length = 128 := by simp [identityBytes]

/-! ### The node table (R156, R200) -/

theorem nodeRecordBytes_length (n : NodeId) (r : NodeRecord) : (nodeRecordBytes n r).length = 32 := by
  simp [nodeRecordBytes]

theorem nodeTableBytes_length (records : Vector NodeRecord 30) : (nodeTableBytes records).length = 960 := by
  rw [nodeTableBytes, length_flatMap_records _ fun n => nodeRecordBytes_length n _, List.length_finRange]

/-- A field within a node's 32 bytes of the table is that of the node's record. -/
theorem fieldAt_nodeTableBytes (s : State) (n : NodeId) {i m : Nat} (h : i + m ≤ 32) :
    fieldAt (nodeTableBytes s.nodes.records) (32 * n.val + i) m = fieldAt (nodeRecordBytes n (s.node n)) i m := by
  have record := drop_flatMap_records (fun n => nodeRecordBytes n (s.node n)) (fun n => nodeRecordBytes_length n _)
    (List.finRange 30) n.val (by simp)
  rw [List.getElem_finRange] at record
  have from_record : (nodeTableBytes s.nodes.records).drop (32 * n.val) = _ := record
  rw [fieldAt, ← List.drop_drop, from_record]
  exact fieldAt_append_left _ (by rw [Fin.cast_mk, nodeRecordBytes_length]; exact h)

/-- Settles O18: each command by its buffer's alignment, and each field of a block by the bytes that stand before it. -/
theorem bufferCommandsWriteThenEnd : Obligations.BufferCommandsWriteThenEnd := by
  unfold Obligations.BufferCommandsWriteThenEnd
  refine ⟨fun buffer s => ⟨fun hd => ?_, fun hd => ?_, fun w d hw => ?_⟩, fun s => ?_⟩
  · rw [exec_identify hd]
    exact ⟨fun h => by rw [identify, if_pos h], fun h => by rw [identify, if_neg h]⟩
  · rw [exec_nodeTableRead hd]
    exact ⟨fun h => by rw [nodeTableRead, if_pos h], fun h => by rw [nodeTableRead, if_neg h]⟩
  · exact ⟨exec_adminBufferWriteEnd hw .ok, fun a => exec_adminBufferWriteEnd hw (.error a)⟩
  refine ⟨presentCount_eq s, ?_, nodeTableBytes_length _, fun n => ?_⟩
  · intro field
    have field_eq (i m : Nat) : field i m = fieldAt (identityBytes s) i m := littleEndian_eq _ i m
    have loop := s.loop.state.code_lt
    have rate := s.loop.rate.code_lt
    have free := freeSlots_lt s.lists
    refine ⟨identityBytes_length s, ?_⟩
    simp only [field_eq, identityBytes, List.append_assoc, List.cons_append, List.nil_append]
    simp [fieldAt_zeros, loop, rate, free, Config.ident]
  · intro r field
    have field_eq {i m : Nat} (h : i + m ≤ 32) : field i m = fieldAt (nodeRecordBytes n r) i m := by
      rw [← fieldAt_nodeTableBytes s n h]
      exact littleEndian_eq _ _ m
    have addr : n.val + 1 < 256 := by omega
    have state := r.state.code_lt
    have valid : r.identity.isSome.toNat < 256 := Nat.lt_trans r.identity.isSome.toNat_lt (by decide)
    have kind : ((r.identity.map Identity.kind).getD 0#16).toNat < 65536 := BitVec.isLt _
    have serial : ((r.identity.map Identity.serial).getD 0#32).toNat < 4294967296 := BitVec.isLt _
    have dirty : r.dirty.toNat < 256 := Nat.lt_trans r.dirty.toNat_lt (by decide)
    simp only [field_eq, Nat.reduceAdd, Nat.reduceLeDiff, nodeRecordBytes, nodeAddr, List.append_assoc, List.cons_append,
      List.nil_append]
    simp [fieldAt_zeros, addr, state, valid, kind, serial, dirty]

end Sys2Proof.Machine
end

section
/-! PROOF. ATTENTION ADD: its checks, and the entry it adds. -/

namespace Sys2Proof.Machine

theorem exec_attentionAdd {s : State} {node source kind list : Nat} {cookie : Word}
    (h : dispatched s = some (.attentionAdd node source kind list cookie)) :
    exec .attentionAdd s = .next (react (attentionAdd node source kind list cookie s)) := by
  simp [exec, execAttentionAdd, h, taken]

/-- One field that names nothing makes an ATTENTION ADD malformed (R158). -/
theorem attentionAdd_malformed {node source kind list : Nat}
    (h : ¬ (1 ≤ node ∧ node ≤ 30 ∧ source ≤ 7 ∧ (kind = 1 ∨ kind = 2) ∧ (list ≤ 63 ∨ list = 0xFF))) (cookie : Word)
    (s : State) : attentionAdd node source kind list cookie s = endAdmin .malformed none s := by
  unfold attentionAdd
  split
  · next key k l hkey hk hl =>
    refine absurd ?_ h
    obtain ⟨hn, hi⟩ := keyAt?_eq_some_iff.mp hkey
    have kind_passes : kind = 1 ∨ kind = 2 := (entryKindOf_eq_some_iff.mp hk).imp And.left And.left
    have list_passes : list ≤ 63 ∨ list = 0xFF := by
      rcases responseList_eq_some_iff.mp hl with ⟨hl, -⟩ | ⟨i, hl, -⟩ <;> omega
    exact ⟨by omega, by omega, by omega, kind_passes, list_passes⟩
  · rfl

theorem attentionAdd_passes {node source kind list : Nat} {key : Key} {k : EntryKind} {l : Option ListId}
    (hkey : keyAt? node source = some key) (hk : entryKindOf kind = some k) (hl : responseList list = some l)
    (cookie : Word) (s : State) :
    attentionAdd node source kind list cookie s = addChecked { key, kind := k, list := l, cookie } s := by
  simp only [attentionAdd, hkey, hk, hl]

theorem addChecked_inUse {e : AttentionEntry} {s : State} (h : ∃ x ∈ s.attention.table, x.key = e.key) :
    addChecked e s = endAdmin .inUse none s := if_pos (attentionEntry_isSome_iff.mpr h)

/-- An entry whose key is new is added with the list it names, or without one. -/
def addNew (e : AttentionEntry) (s : State) : State :=
  match e.list with
  | some l => addWithList e l s
  | none => addEntry e s

section
variable {e : AttentionEntry} {s : State} (h : ∀ x ∈ s.attention.table, x.key ≠ e.key)
include h

theorem addChecked_newKey :
    addChecked e s = if 64 ≤ s.attention.table.length then endAdmin .noSpace none s else addNew e s := by
  rw [addChecked, attentionEntry_eq_none_iff.mpr h]
  rfl

theorem addChecked_noSpace (hs : 64 ≤ s.attention.table.length) : addChecked e s = endAdmin .noSpace none s := by
  rw [addChecked_newKey h, if_pos hs]

theorem addChecked_noList (hs : s.attention.table.length < 64) (hl : e.list = none) : addChecked e s = addEntry e s := by
  rw [addChecked_newKey h, if_neg (Nat.not_le.mpr hs), addNew, hl]

theorem addChecked_list {l : ListId} (hs : s.attention.table.length < 64) (hl : e.list = some l) :
    addChecked e s = addWithList e l s := by
  rw [addChecked_newKey h, if_neg (Nat.not_le.mpr hs), addNew, hl]

end

theorem addEntry_eq (e : AttentionEntry) (s : State) :
    addEntry e s = endAdmin .ok (some (s.attention.table.length + 1))
      (s.setAttention { s.attention with table := s.attention.table ++ [e] }) := by
  simp [addEntry]

theorem addWithList_notLoaded {l : ListId} {s : State}
    (h : ∀ steps words out refs, s.stored l ≠ .loaded steps words out refs) (e : AttentionEntry) :
    addWithList e l s = endAdmin .notFound none s := by
  rcases StoredList.notLoaded_cases h with h | ⟨count, h⟩ <;> simp only [addWithList, h]

section
variable {l : ListId} {s : State} {steps : List Step} {words refs : Nat}

theorem addWithList_usesOut (h : s.stored l = .loaded steps words true refs) (e : AttentionEntry) :
    addWithList e l s = endAdmin .malformed none s := by
  simp only [addWithList, h]

theorem addWithList_loaded (h : s.stored l = .loaded steps words false refs) (e : AttentionEntry) :
    addWithList e l s = endAdmin .ok (some (s.attention.table.length + 1))
      ((s.setStored l (.loaded steps words false (refs + 1))).setAttention
        { s.attention with table := s.attention.table ++ [e] }) := by
  simp only [addWithList, h, addEntry_eq, takeReference_loaded h, State.setStored_attention]

end

/-- Settles O28: the fields name a key, a kind and a list or none; then the table, then the list. -/
theorem attentionAddChecksInOrder : Obligations.AttentionAddChecksInOrder := by
  unfold Obligations.AttentionAddChecksInOrder
  intro node source kind list cookie s hd
  rw [exec_attentionAdd hd]
  refine ⟨fun h => by rw [attentionAdd_malformed h], ?_⟩
  intro n i k hn hi hk key
  have passes {l : Option ListId} (hl : responseList list = some l) :=
    attentionAdd_passes (keyAt?_key hn hi) (entryKindOf_eq_some_iff.mpr hk) hl cookie s
  refine ⟨fun hl hu => ?_, fun hu => ⟨fun hl hs => ?_, fun hs => ⟨fun hl => ?_, fun l hl => ?_⟩⟩⟩
  · obtain ⟨l, hl⟩ := responseList_passes hl
    rw [passes hl, addChecked_inUse hu]
  · obtain ⟨l, hl⟩ := responseList_passes hl
    rw [passes hl, addChecked_noSpace hu hs]
  · rw [passes (responseList_eq_some_iff.mpr (.inl ⟨hl, rfl⟩)), addChecked_noList hu hs rfl, addEntry_eq]
  · rw [passes (responseList_eq_some_iff.mpr (.inr ⟨l, hl, rfl⟩)), addChecked_list hu hs rfl]
    refine ⟨fun h => by rw [addWithList_notLoaded h], fun steps words out refs h => ⟨?_, ?_⟩⟩
    · rintro rfl
      rw [addWithList_usesOut h]
    · rintro rfl
      rw [addWithList_loaded h]

end Sys2Proof.Machine
end

section
/-! PROOF. ATTENTION ARM and DISARM, and the desired mask. -/

namespace Sys2Proof.Machine

/-! ### The desired mask (R167) -/

/-- The mask with an entry taken in: a node's entry that is not DISARMED clears its source's bit. -/
def maskWith (n : NodeId) (mask : Byte) (e : AttentionEntry) : Byte :=
  if e.key.node = n ∧ e.state ≠ .disarmed then setBit mask e.key.source.val false else mask

theorem desiredMask_eq (table : List AttentionEntry) (n : NodeId) : desiredMask table n = table.foldl (maskWith n) 0xFF :=
  rfl

theorem maskWith_bit (n : NodeId) (i : Source) (mask : Byte) (e : AttentionEntry) :
    (maskWith n mask e).getLsbD i.val = true ↔ mask.getLsbD i.val = true ∧ (e.key = ⟨n, i⟩ → e.state = .disarmed) := by
  have key_iff : e.key = ⟨n, i⟩ ↔ e.key.node = n ∧ i.val = e.key.source.val := by
    cases e.key
    simp [Fin.ext_iff, eq_comm]
  unfold maskWith
  split
  · next h =>
    rw [setBit_getLsbD _ _ _ _ e.key.source.isLt]
    by_cases hi : i.val = e.key.source.val <;> simp [key_iff, h, hi]
  · next h =>
    exact ⟨fun hm => ⟨hm, fun hk => Decidable.byContradiction fun hd => h ⟨(key_iff.mp hk).1, hd⟩⟩, And.left⟩

theorem foldl_maskWith_bit (n : NodeId) (i : Source) (table : List AttentionEntry) (mask : Byte) :
    (table.foldl (maskWith n) mask).getLsbD i.val = true ↔
      mask.getLsbD i.val = true ∧ ∀ e ∈ table, e.key = ⟨n, i⟩ → e.state = .disarmed := by
  induction table generalizing mask with
  | nil => simp
  | cons a table ih => rw [List.foldl_cons, ih, maskWith_bit, List.forall_mem_cons, and_assoc]

/-- A source's bit is set exactly while every entry of its key is DISARMED (R167). -/
theorem desiredMask_bit (table : List AttentionEntry) (n : NodeId) (i : Source) :
    (desiredMask table n).getLsbD i.val = true ↔ ∀ e ∈ table, e.key = ⟨n, i⟩ → e.state = .disarmed := by
  have all_ones : (0xFF : Byte).getLsbD i.val = true := by revert i; decide
  rw [desiredMask_eq, foldl_maskWith_bit]
  exact and_iff_right all_ones

/-- The table with the entry of a key in a state. -/
def tableWith (table : List AttentionEntry) (key : Key) (target : EntryState) : List AttentionEntry :=
  table.map fun e => if e.key = key then { e with state := target } else e

theorem modAttention_state (s : State) (key : Key) (target : EntryState) :
    s.modAttention key (fun e => { e with state := target }) =
      s.setAttention { s.attention with table := tableWith s.attention.table key target } := rfl

/-- The entries of the changed key are in the new state, and those of every other key as they were. -/
theorem forall_tableWith {table : List AttentionEntry} {key key' : Key} {target : EntryState} :
    (∀ e ∈ tableWith table key target, e.key = key' → e.state = .disarmed) ↔
      ∀ e ∈ table, e.key = key' → (if key' = key then target else e.state) = .disarmed := by
  rw [tableWith, List.forall_mem_map]
  refine forall₂_congr fun e _ => ?_
  by_cases h : e.key = key
  · simp only [if_pos h]
    exact forall_congr' fun h' => by rw [if_pos (h'.symm.trans h)]
  · simp only [if_neg h]
    exact forall_congr' fun h' => by rw [if_neg (h' ▸ h)]

theorem desiredMask_tableWith_self {table : List AttentionEntry} {n : NodeId} {i : Source} {e : AttentionEntry}
    (he : e ∈ table) (hk : e.key = ⟨n, i⟩) (target : EntryState) :
    (desiredMask (tableWith table ⟨n, i⟩ target) n).getLsbD i.val = decide (target = .disarmed) := by
  rw [Bool.eq_iff_iff, desiredMask_bit, forall_tableWith, decide_eq_true_iff]
  simp only [if_true]
  exact ⟨fun h => h e he hk, fun h _ _ _ => h⟩

theorem desiredMask_tableWith_ne (table : List AttentionEntry) {n m : NodeId} {i j : Source} (h : ¬ (m = n ∧ j = i))
    (target : EntryState) :
    (desiredMask (tableWith table ⟨n, i⟩ target) m).getLsbD j.val = (desiredMask table m).getLsbD j.val := by
  have other : (⟨m, j⟩ : Key) ≠ ⟨n, i⟩ := by simpa using h
  rw [Bool.eq_iff_iff, desiredMask_bit, desiredMask_bit, forall_tableWith]
  simp only [if_neg other]

/-! ### ARM and DISARM (R159) -/

theorem exec_attentionArm {s : State} {node source : Nat} (h : dispatched s = some (.attentionArm node source)) :
    exec .attentionArm s = .next (react (armTo .armed node source s)) := by
  simp [exec, execAttentionArm, h, taken]

theorem exec_attentionDisarm {s : State} {node source : Nat} (h : dispatched s = some (.attentionDisarm node source)) :
    exec .attentionDisarm s = .next (react (armTo .disarmed node source s)) := by
  simp [exec, execAttentionDisarm, h, taken]

theorem armTo_malformed {node source : Nat} (h : ¬ (1 ≤ node ∧ node ≤ 30 ∧ source ≤ 7)) (target : EntryState) (s : State) :
    armTo target node source s = endAdmin .malformed none s := by
  simp only [armTo, keyAt?_outside h]

section
variable {node source : Nat} {key : Key} (hkey : keyAt? node source = some key) {s : State}
include hkey

theorem armTo_notFound (h : s.attentionEntry key = none) (target : EntryState) :
    armTo target node source s = endAdmin .notFound none s := by
  simp only [armTo, hkey, h]

variable {e : AttentionEntry} (he : s.attentionEntry key = some e)
include he

theorem armTo_busy (hd : e.state ≠ .disarmed) (ha : e.state ≠ .armed) (target : EntryState) :
    armTo target node source s = endAdmin .badState (some e.state.code) s := by
  rcases EntryState.busy_cases hd ha with h | h | h <;> simp only [armTo, hkey, he, h]

theorem armTo_quiet (h : e.state = .disarmed ∨ e.state = .armed) (target : EntryState) :
    armTo target node source s = if e.state = target then endAdmin .ok none s else setArmed key target s := by
  rcases h with h | h <;> simp only [armTo, hkey, he, h]

end

theorem setArmed_eq (key : Key) (target : EntryState) (s : State) :
    setArmed key target s = endAdmin .ok none (desiredChanged key.node
      (s.setAttention { s.attention with table := tableWith s.attention.table key target })) := rfl

/-- Settles O29: the mask bit by bit over the table, and `armTo` by the entry's state for both commands. -/
theorem armAndDisarmByEntryState : Obligations.ArmAndDisarmByEntryState := by
  unfold Obligations.ArmAndDisarmByEntryState
  refine ⟨desiredMask_bit, fun n s => rfl, fun node source s c target other hc => ?_⟩
  have carried : exec c s = .next (react (armTo target node source s)) := by
    rcases hc with ⟨rfl, rfl, -, hd⟩ | ⟨rfl, rfl, -, hd⟩
    · exact exec_attentionArm hd
    · exact exec_attentionDisarm hd
  have quiet : (target = .disarmed ∨ target = .armed) ∧ (other = .disarmed ∨ other = .armed) ∧ other ≠ target := by
    rcases hc with ⟨-, rfl, rfl, -⟩ | ⟨-, rfl, rfl, -⟩ <;> decide
  obtain ⟨quiet_target, quiet_other, distinct⟩ := quiet
  rw [carried]
  refine ⟨fun h => by rw [armTo_malformed h], fun n i hn hi => ?_⟩
  have hkey := keyAt?_key hn hi
  refine ⟨fun h => by rw [armTo_notFound hkey (attentionEntry_eq_none_iff.mpr h)], fun e he => ⟨?_, ?_, ?_⟩⟩
  · rintro rfl
    rw [armTo_quiet hkey he quiet_target, if_pos rfl]
  · rintro rfl table
    rw [armTo_quiet hkey he quiet_other, if_neg distinct, setArmed_eq]
    exact ⟨rfl, desiredMask_tableWith_self (attentionEntry_mem he) (attentionEntry_key he) target,
      fun m j h => desiredMask_tableWith_ne _ h target⟩
  · exact fun hd ha => by rw [armTo_busy hkey he hd ha]

end Sys2Proof.Machine
end

section
/-! PROOF. ATTENTION DELETE: its checks, and what leaves with the entry. -/

namespace Sys2Proof.Machine

theorem exec_attentionDelete {s : State} {node source : Nat} (h : dispatched s = some (.attentionDelete node source)) :
    exec .attentionDelete s = .next (react (attentionDelete node source s)) := by
  simp [exec, execAttentionDelete, h, taken]

theorem attentionDelete_malformed {node source : Nat} (h : ¬ (1 ≤ node ∧ node ≤ 30 ∧ source ≤ 7)) (s : State) :
    attentionDelete node source s = endAdmin .malformed none s := by
  simp only [attentionDelete, keyAt?_outside h]

section
variable {node source : Nat} {key : Key} (hkey : keyAt? node source = some key) {s : State}
include hkey

theorem attentionDelete_notFound (h : s.attentionEntry key = none) :
    attentionDelete node source s = endAdmin .notFound none s := by
  simp only [attentionDelete, hkey, h]

variable {e : AttentionEntry} (he : s.attentionEntry key = some e)
include he

theorem attentionDelete_busy (hd : e.state ≠ .disarmed) (ha : e.state ≠ .armed) :
    attentionDelete node source s = endAdmin .badState (some e.state.code) s := by
  rcases EntryState.busy_cases hd ha with h | h | h <;> simp only [attentionDelete, hkey, he, h]

theorem attentionDelete_quiet (h : e.state = .disarmed ∨ e.state = .armed) :
    attentionDelete node source s = removeEntry e s := by
  rcases h with h | h <;> simp only [attentionDelete, hkey, he, h]

end

/-! ### What leaves with the entry (R160) -/

/-- The report of a node's mask changes the nodes only. -/
theorem desiredChanged_eq (n : NodeId) (s : State) : ∃ x, desiredChanged n s = s.setNodes x := by
  unfold desiredChanged
  split
  · exact ⟨_, rfl⟩
  · exact ⟨s.nodes, rfl⟩

/-- The report marks the node whose desired mask differs from the applied one (R37, R167). -/
theorem desiredChanged_node (n m : NodeId) (s : State) :
    (desiredChanged n s).node m =
      if m = n ∧ desiredMask s.attention.table n ≠ (s.node n).applied then { s.node m with dirty := true } else s.node m := by
  unfold desiredChanged
  by_cases hm : m = n
  · subst hm
    split <;> simp [*]
  · simp only [hm, false_and, if_false]
    split
    · exact vget_vset_ne _ _ _ _ (Ne.symm hm)
    · rfl

/-- The table without the entries of a key. -/
def tableWithout (table : List AttentionEntry) (key : Key) : List AttentionEntry := table.filter fun x => !(x.key == key)

/-- The state without an entry and its reference. -/
def withoutEntry (e : AttentionEntry) (s : State) : State :=
  let s := s.setAttention { s.attention with table := tableWithout s.attention.table e.key }
  match e.list with
  | some l => releaseReference l s
  | none => s

/-- The state that an ATTENTION DELETE ends with: the node's mask is reported for an entry that was ARMED. -/
def entryRemoved (e : AttentionEntry) (s : State) : State :=
  if e.state = .armed then desiredChanged e.key.node (withoutEntry e s) else withoutEntry e s

theorem removeEntry_eq (e : AttentionEntry) (s : State) :
    removeEntry e s = endAdmin .ok (some (entryRemoved e s).attention.table.length) (entryRemoved e s) := rfl

theorem withoutEntry_eq (e : AttentionEntry) (s : State) : ∃ x, withoutEntry e s =
    (s.setAttention { s.attention with table := tableWithout s.attention.table e.key }).setLists x := by
  unfold withoutEntry
  split
  · exact releaseReference_eq _ _
  · exact ⟨s.lists, rfl⟩

theorem withoutEntry_lists_none {e : AttentionEntry} (h : e.list = none) (s : State) :
    (withoutEntry e s).lists = s.lists := by
  simp only [withoutEntry, h]
  rfl

theorem withoutEntry_lists_some {e : AttentionEntry} {l : ListId} (h : e.list = some l) (s : State) :
    (withoutEntry e s).lists = (releaseReference l s).lists := by
  simp only [withoutEntry, h]
  exact releaseReference_lists_congr rfl

/-- What is reported comes on top of the entry's leaving, and changes the nodes only. -/
theorem entryRemoved_eq (e : AttentionEntry) (s : State) : ∃ x, entryRemoved e s = (withoutEntry e s).setNodes x := by
  unfold entryRemoved
  split
  · exact desiredChanged_eq _ _
  · exact ⟨(withoutEntry e s).nodes, rfl⟩

theorem entryRemoved_lists (e : AttentionEntry) (s : State) : (entryRemoved e s).lists = (withoutEntry e s).lists := by
  obtain ⟨x, h⟩ := entryRemoved_eq e s
  rw [h, State.setNodes_lists]

theorem entryRemoved_attention (e : AttentionEntry) (s : State) :
    (entryRemoved e s).attention = { s.attention with table := tableWithout s.attention.table e.key } := by
  obtain ⟨x, h⟩ := entryRemoved_eq e s
  obtain ⟨y, h'⟩ := withoutEntry_eq e s
  rw [h, h']
  rfl

theorem entryRemoved_frame (e : AttentionEntry) (s : State) :
    entryRemoved e s = { s with
      attention := (entryRemoved e s).attention, lists := (entryRemoved e s).lists, nodes := (entryRemoved e s).nodes } := by
  obtain ⟨x, h⟩ := entryRemoved_eq e s
  obtain ⟨y, h'⟩ := withoutEntry_eq e s
  rw [h, h']
  rfl

theorem entryRemoved_attentionEntry (e : AttentionEntry) (s : State) : (entryRemoved e s).attentionEntry e.key = none := by
  rw [attentionEntry_eq_none_iff, entryRemoved_attention]
  simp [tableWithout]

theorem entryRemoved_nodes_disarmed {e : AttentionEntry} (h : e.state = .disarmed) (s : State) :
    (entryRemoved e s).nodes = s.nodes := by
  obtain ⟨y, h'⟩ := withoutEntry_eq e s
  rw [entryRemoved, h, if_neg (by decide), h']
  rfl

theorem entryRemoved_node_armed {e : AttentionEntry} (h : e.state = .armed) (s : State) (m : NodeId) :
    (entryRemoved e s).node m =
      if m = e.key.node ∧ desiredMask (entryRemoved e s).attention.table e.key.node ≠ (s.node e.key.node).applied then
        { s.node m with dirty := true }
      else s.node m := by
  obtain ⟨y, h'⟩ := withoutEntry_eq e s
  rw [entryRemoved_attention, entryRemoved, if_pos h, desiredChanged_node, h']
  rfl

/-- Settles O30: the reference in the statement's words, and `removeEntry` field by field. -/
theorem attentionDeleteRemovesEntry : Obligations.AttentionDeleteRemovesEntry := by
  unfold Obligations.AttentionDeleteRemovesEntry
  refine ⟨fun l s => ⟨fun _ _ _ _ h => releaseReference_loaded h, releaseReference_notLoaded⟩, ?_⟩
  intro node source s hd
  rw [exec_attentionDelete hd]
  refine ⟨fun h => by rw [attentionDelete_malformed h], fun n i hn hi => ?_⟩
  have hkey := keyAt?_key hn hi
  refine ⟨fun h => by rw [attentionDelete_notFound hkey h], fun e he =>
    ⟨fun hd ha => by rw [attentionDelete_busy hkey he hd ha], fun h => ⟨entryRemoved e s, ?_⟩⟩⟩
  have key_eq := attentionEntry_key he
  refine ⟨by rw [attentionDelete_quiet hkey he h, removeEntry_eq], ?_, ?_, ?_, fun hl => ?_, fun l hl => ?_,
    fun hs => entryRemoved_nodes_disarmed hs s, fun hs m => ?_, entryRemoved_frame e s⟩
  · rw [← key_eq, entryRemoved_attentionEntry]
  · rw [entryRemoved_attention]
  · rw [entryRemoved_attention, key_eq]
    rfl
  · rw [entryRemoved_lists, withoutEntry_lists_none hl]
  · rw [entryRemoved_lists, withoutEntry_lists_some hl]
  · rw [entryRemoved_node_armed hs, key_eq]

end Sys2Proof.Machine
end

section
/-! PROOF. SLOT START: its checks, and the slot and capture ring it sets. -/

namespace Sys2Proof.Machine

theorem exec_slotStart {s : State} {slot list policy vector period offset size : Nat} {base : Addr}
    (h : dispatched s = some (.slotStart slot list policy vector period offset size base)) :
    exec .slotStart s = .next (react (slotStart slot list policy vector period offset size base s)) := by
  simp [exec, execSlotStart, h, taken]

theorem slotFields_iff {period offset size : Nat} {base : Addr} :
    slotFields period offset size base = true ↔
      1 ≤ period ∧ period ≤ 600000 ∧ offset ≤ period ∧ 4 ≤ size ∧ size ≤ 1024 ∧ base.toNat % 32 = 0 := by
  simp [slotFields, and_assoc]

/-- One field out of its range makes a SLOT START malformed (R161). -/
theorem slotStart_malformed {slot list policy vector period offset size : Nat} {base : Addr}
    (h : ¬ (slot ≤ 7 ∧ list ≤ 63 ∧ 1 ≤ period ∧ period ≤ 600000 ∧ offset ≤ period ∧ 4 ≤ size ∧ size ≤ 1024
      ∧ base.toNat % 32 = 0 ∧ (policy = 1 ∨ policy = 2) ∧ vector ≤ 15)) (s : State) :
    slotStart slot list policy vector period offset size base s = endAdmin .malformed none s := by
  unfold slotStart
  split
  · next k l p v hk hl hp hv =>
    refine if_neg fun hf => h ?_
    have slot_lt := slotAt?_eq_some_iff.mp hk
    have list_lt := listAt?_eq_some_iff.mp hl
    have vector_lt := vectorAt?_eq_some_iff.mp hv
    have policy_passes : policy = 1 ∨ policy = 2 := (fullPolicyOf_eq_some_iff.mp hp).imp And.left And.left
    obtain ⟨h1, h2, h3, h4, h5, h6⟩ := slotFields_iff.mp hf
    exact ⟨by omega, by omega, h1, h2, h3, h4, h5, h6, policy_passes, by omega⟩
  · rfl

theorem slotStart_passes {slot list policy vector period offset size : Nat} {base : Addr} {k : SlotId} {l : ListId}
    {v : Vec} {p : FullPolicy} (hk : slotAt? slot = some k) (hl : listAt? list = some l)
    (hp : fullPolicyOf policy = some p) (hv : vectorAt? vector = some v) (hf : slotFields period offset size base = true)
    (s : State) :
    slotStart slot list policy vector period offset size base s =
      if (s.slot k).state = .idle then startIdleSlot k l p v period offset size base s
      else endAdmin .badState (some (s.slot k).state.code) s := by
  simp only [slotStart, hk, hl, hp, hv, hf, if_true]

section
variable {l : ListId} {s : State} (k : SlotId) (p : FullPolicy) (v : Vec) (period offset size : Nat) (base : Addr)

theorem startIdleSlot_notLoaded (h : ∀ steps words out refs, s.stored l ≠ .loaded steps words out refs) :
    startIdleSlot k l p v period offset size base s = endAdmin .notFound none s := by
  rcases StoredList.notLoaded_cases h with h | ⟨count, h⟩ <;> simp only [startIdleSlot, h]

variable {steps : List Step} {words refs : Nat} {out : Bool}

theorem startIdleSlot_refusesList (h : s.stored l = .loaded steps words out refs) (hl : out = true ∨ 1024 < words) :
    startIdleSlot k l p v period offset size base s = endAdmin .malformed (some words) s := by
  simp only [startIdleSlot, h]
  exact if_pos hl

theorem startIdleSlot_starts (h : s.stored l = .loaded steps words out refs) (ho : out = false) (hw : words ≤ 1024) :
    startIdleSlot k l p v period offset size base s =
      endAdmin .ok (some (snapshotSizeFor words))
        (((s.setStored l (.loaded steps words out (refs + 1))).setSlot k
            (startedSlot s l p v period offset words)).setCaptureRing k { base, size, phase := true }) := by
  have accepted : ¬ (out = true ∨ Config.maxSlotWords < words) := by
    rintro (h | h)
    · simp [ho] at h
    · exact absurd h (Nat.not_lt.mpr hw)
  simp only [startIdleSlot, h, if_neg accepted, takeReference_loaded h]

end

/-- Settles O31: the fields, the slot's state, then its list. -/
theorem slotStartSetsSlot : Obligations.SlotStartSetsSlot := by
  unfold Obligations.SlotStartSetsSlot
  intro slot list policy vector period offset size base s hd
  rw [exec_slotStart hd]
  refine ⟨fun h => by rw [slotStart_malformed h], fun k l v p hk hl hv hp hf => ?_⟩
  rw [slotStart_passes (slotAt?_eq_some_iff.mpr hk) (listAt?_eq_some_iff.mpr hl) (fullPolicyOf_eq_some_iff.mpr hp)
    (vectorAt?_eq_some_iff.mpr hv) (slotFields_iff.mpr hf)]
  refine ⟨fun hs => by rw [if_neg hs], fun hs => ?_⟩
  rw [if_pos hs]
  refine ⟨fun h => by rw [startIdleSlot_notLoaded k p v period offset size base h], fun steps words out refs h =>
    ⟨fun hl => by rw [startIdleSlot_refusesList k p v period offset size base h hl], fun ho hw => ?_⟩⟩
  rw [startIdleSlot_starts k p v period offset size base h ho hw]
  rfl

end Sys2Proof.Machine
end

section
/-! PROOF. SLOT STOP and SLOT RESUME by the slot's state. -/

namespace Sys2Proof.Machine

theorem exec_slotStop {s : State} {slot : Nat} (h : dispatched s = some (.slotStop slot)) :
    exec .slotStop s = .next (react (slotStop slot s)) := by
  simp [exec, execSlotStop, h, taken]

theorem exec_slotResume {s : State} {slot : Nat} (h : dispatched s = some (.slotResume slot)) :
    exec .slotResume s = .next (react (slotResume slot s)) := by
  simp [exec, execSlotResume, h, taken]

@[simp] theorem waitAdmin_slot (e : AdminWait) (s : State) (k : SlotId) : (waitAdmin e s).slot k = s.slot k := by
  unfold waitAdmin
  split <;> rfl

@[simp] theorem returnToIdle_admin (k : SlotId) (s : State) : (returnToIdle k s).admin = s.admin := by
  simp [returnToIdle]

/-- The stop that waits for a slot ends with it IDLE, reporting the missed count of before (R162, R189). -/
theorem finishSlotStop_waiting {k : SlotId} {s : State} (h : adminWait s = some (.slotStop k)) :
    finishSlotStop k s = endAdmin .ok (some (s.slot k).missed) (returnToIdle k s) := by
  have waits : adminWait (returnToIdle k s) = some (.slotStop k) := by
    rw [adminWait_congr (returnToIdle_admin k s), h]
  simp only [finishSlotStop, waits, if_true]

theorem slotStop_malformed {slot : Nat} (h : 7 < slot) (s : State) : slotStop slot s = endAdmin .malformed none s := by
  simp only [slotStop, slotAt?_outside h]

theorem slotResume_malformed {slot : Nat} (h : 7 < slot) (s : State) : slotResume slot s = endAdmin .malformed none s := by
  simp only [slotResume, slotAt?_outside h]

section
variable {slot : Nat} {k : SlotId} (hk : slotAt? slot = some k) {s : State}
include hk

theorem slotStop_idle (h : (s.slot k).state = .idle) : slotStop slot s = endAdmin .badState none s := by
  simp only [slotStop, hk, h, if_true]

theorem slotStop_waits (h : (s.slot k).state ≠ .idle) (hr : (s.slot k).run ≠ none) :
    slotStop slot s = (waitAdmin (.slotStop k) s).setSlot k { s.slot k with stopWaiting := true } := by
  simp only [slotStop, hk, if_neg h, waitAdmin_slot, Option.isSome_iff_ne_none.mpr hr, if_true]

theorem slotStop_ends (hj : ∃ j, s.admin.job = some j) (h : (s.slot k).state ≠ .idle) (hr : (s.slot k).run = none) :
    slotStop slot s = endAdmin .ok (some (s.slot k).missed) (returnToIdle k (waitAdmin (.slotStop k) s)) := by
  obtain ⟨j, hj⟩ := hj
  have stops : slotStop slot s = finishSlotStop k (waitAdmin (.slotStop k) s) := by
    simp [slotStop, hk, h, hr]
  rw [stops, finishSlotStop_waiting (adminWait_waitAdmin _ hj), waitAdmin_slot]

theorem slotResume_resumes (h : (s.slot k).state = .suspended) :
    slotResume slot s = endAdmin .ok (some (s.slot k).missed) (s.setSlot k { s.slot k with state := .active }) := by
  simp only [slotResume, hk, h, if_true]

theorem slotResume_refused (h : (s.slot k).state ≠ .suspended) :
    slotResume slot s = endAdmin .badState (some (s.slot k).state.code) s := by
  simp only [slotResume, hk, if_neg h]

end

/-- Settles O32: each command by the slot's state, and SLOT STOP by the run in progress. -/
theorem slotStopAndResume : Obligations.SlotStopAndResume := by
  unfold Obligations.SlotStopAndResume
  refine ⟨fun slot s hd => ?_, fun slot s hd => ?_⟩
  · rw [exec_slotStop hd]
    refine ⟨fun h => by rw [slotStop_malformed h], fun k hk => ?_⟩
    have named := slotAt?_eq_some_iff.mpr hk
    refine ⟨fun h => by rw [slotStop_idle named h], fun h => ⟨fun hr => by rw [slotStop_waits named h hr], fun hr => ?_⟩⟩
    rw [slotStop_ends named (dispatched_job hd) h hr, returnToIdle, waitAdmin_slot]
  · rw [exec_slotResume hd]
    refine ⟨fun h => by rw [slotResume_malformed h], fun k hk => ?_⟩
    have named := slotAt?_eq_some_iff.mpr hk
    exact ⟨fun h => by rw [slotResume_refused named h], fun h => by rw [slotResume_resumes named h]⟩

end Sys2Proof.Machine
end

section
/-! PROOF. A period expiry by the slot's state, and the hand-over of an internal run. -/

namespace Sys2Proof.Machine

/-! ### The FREE internal contexts (R122) -/

theorem mem_internalContexts (c : CtxId) : c ∈ internalContexts ↔ 12 ≤ c.val := by
  revert c
  decide

theorem internalContexts_eq : internalContexts = (List.finRange 16).filter fun c => 12 ≤ c.val := by decide

theorem freeIn_internal_none {s : State} (h : ∀ c : CtxId, 12 ≤ c.val → (s.ctx c).state ≠ .free) :
    freeIn internalContexts s = none :=
  List.find?_eq_none.mpr fun c hc => by simpa using h c ((mem_internalContexts c).mp hc)

/-- The lowest-numbered FREE internal context. -/
theorem freeIn_internal_lowest {s : State} {c : CtxId} (h : 12 ≤ c.val) (hf : (s.ctx c).state = .free)
    (hl : ∀ d : CtxId, 12 ≤ d.val → d.val < c.val → (s.ctx d).state ≠ .free) : freeIn internalContexts s = some c := by
  rw [freeIn, internalContexts_eq, List.find?_filter]
  refine find?_finRange (by simp [h, hf]) fun d hd hn => ?_
  obtain ⟨internal, free⟩ : 12 ≤ d.val ∧ (s.ctx d).state = .free := by simpa using hn
  exact hl d internal hd free

/-- An internal run begins READY at step 0 of its LOADED list, with its owner recorded (R122, R123). -/
theorem startRun_loaded {c : CtxId} {l : ListId} {s : State} {steps : List Step} {words refs : Nat} {out : Bool}
    (h : s.stored l = .loaded steps words out refs) (owner : RunOwner) :
    startRun c owner l s = runList c (s.setCtx c
      { state := .ready, list := .stored l, stepCount := steps.length, runOwner := some owner }) := by
  rw [startRun, h]
  rfl

/-! ### A slot's record replaced, and what the scheduler does next -/

@[simp] theorem reachInstant_slot (due : Instant) (s : State) (k : SlotId) : (reachInstant due s).slot k = s.slot k := by
  obtain ⟨i, h⟩ := reachInstant_eq due s
  rw [h]
  rfl

theorem freeIn_setSlot (cs : List CtxId) (s : State) (k : SlotId) (x : Slot) : freeIn cs (s.setSlot k x) = freeIn cs s := rfl

theorem freeIn_reachInstant (cs : List CtxId) (due : Instant) (s : State) :
    freeIn cs (reachInstant due s) = freeIn cs s := by
  simp only [freeIn, reachInstant_ctx]

/-- A slot one period more behind its grid (R183). -/
def Slot.missing (x : Slot) : Slot := { x with missed := missedUp x.missed }

/-- A slot whose run has started (R185). -/
def Slot.running (x : Slot) (start : Instant) (c : CtxId) : Slot :=
  { x with run := some { sequence := x.sequence, start, ctx := c } }

section
variable (k : SlotId) (s : State) (x : Slot)

theorem missPeriod_setSlot : missPeriod k (s.setSlot k x) = s.setSlot k x.missing := by
  simp [missPeriod, Slot.missing]

theorem notifySlot_setSlot (reason : SlotReason) :
    notifySlot k reason (s.setSlot k x) = notify (.slot k) (.slot x.state reason x.sequence x.missed) (s.setSlot k x) := by
  simp [notifySlot]

theorem startSlotRun_setSlot (c : CtxId) :
    startSlotRun k c (s.setSlot k x) = startRun c (.slot k) x.list (s.setSlot k (x.running s.timebase c)) := by
  simp [startSlotRun, Slot.running]

theorem waitForLoop_setSlot :
    waitForLoop k (s.setSlot k x) = notify (.slot k) (.slot .waitingLoop .loopDown x.sequence (missedUp x.missed))
      (s.setSlot k { x.missing with state := .waitingLoop }) := by
  rw [waitForLoop, missPeriod_setSlot, State.setSlot_slot_self, State.setSlot_setSlot, notifySlot_setSlot]
  rfl

/-! ### An expiry by the slot's state (R183) -/

variable {k s x}

theorem expiryByState_starts {c : CtxId} (ha : x.state = .active) (hl : s.loop.state = .running) (hr : x.run = none)
    (hc : freeIn internalContexts s = some c) :
    expiryByState k (s.setSlot k x) = startRun c (.slot k) x.list (s.setSlot k (x.running s.timebase c)) := by
  rw [← startSlotRun_setSlot]
  simp [expiryByState, activeExpiry, freeIn_setSlot, ha, hl, hr, hc]

/-- The run before has not ended, or no internal context is FREE: the period is missed. -/
theorem expiryByState_misses (ha : x.state = .active) (hl : s.loop.state = .running)
    (h : x.run ≠ none ∨ freeIn internalContexts s = none) :
    expiryByState k (s.setSlot k x) = s.setSlot k x.missing := by
  have missed : activeExpiry k (s.setSlot k x) = missPeriod k (s.setSlot k x) := by
    unfold activeExpiry
    split
    · next hr hc =>
      rw [State.setSlot_slot_self] at hr
      rw [freeIn_setSlot] at hc
      simp [hr, hc] at h
    · rfl
  simp [expiryByState, ha, hl, missed, missPeriod_setSlot]

theorem expiryByState_resting (h : x.state = .waitingLoop ∨ x.state = .suspended) :
    expiryByState k (s.setSlot k x) = s.setSlot k x.missing := by
  rw [← missPeriod_setSlot]
  rcases h with h | h <;> simp [expiryByState, h]

theorem expiryByState_loopDown (ha : x.state = .active) (hl : s.loop.state ≠ .running) :
    expiryByState k (s.setSlot k x) = notify (.slot k) (.slot .waitingLoop .loopDown x.sequence (missedUp x.missed))
      (s.setSlot k { x.missing with state := .waitingLoop }) := by
  rw [← waitForLoop_setSlot]
  simp [expiryByState, ha, hl]

/-! ### The largest sequence number (R188) -/

theorem sequenceExhausted_suspends (h : x.state = .active ∨ x.state = .waitingLoop) :
    sequenceExhausted k (s.setSlot k x) =
      notify (.slot k) (.slot .suspended .sequenceExhausted x.sequence (missedUp x.missed))
        (s.setSlot k { x.missing with state := .suspended }) := by
  have serves : x.missing.state = .active ∨ x.missing.state = .waitingLoop := h
  rw [sequenceExhausted, missPeriod_setSlot, suspendSlot, State.setSlot_slot_self, if_pos serves, State.setSlot_setSlot,
    notifySlot_setSlot]
  rfl

theorem sequenceExhausted_suspended (h : x.state = .suspended) :
    sequenceExhausted k (s.setSlot k x) = s.setSlot k x.missing := by
  have stays : ¬ (x.missing.state = .active ∨ x.missing.state = .waitingLoop) := by simp [Slot.missing, h]
  rw [sequenceExhausted, missPeriod_setSlot, suspendSlot, State.setSlot_slot_self, if_neg stays]

end

/-! ### PERIOD_EXPIRY (R182, R188) -/

/-- A slot whose next instant is one period further on its grid (R182). -/
def Slot.gridAdvanced (x : Slot) : Slot := { x with nextDue := x.nextDue + 100 * x.period }

/-- A slot with its grid and its sequence number at the next period (R182). -/
def Slot.counted (x : Slot) : Slot := { x.gridAdvanced with sequence := x.sequence + 1 }

section
variable {k : SlotId} {s : State}

theorem exec_periodExpiry_idle (h : (s.slot k).state = .idle) : exec (.periodExpiry k) s = .next s := by
  simp only [exec, execPeriodExpiry, h]

theorem exec_periodExpiry (h : (s.slot k).state ≠ .idle) :
    exec (.periodExpiry k) s = .next (react (periodExpires k (reachInstant (s.slot k).nextDue s))) := by
  cases hs : (s.slot k).state with
  | idle => exact absurd hs h
  | active | waitingLoop | suspended => simp only [exec, execPeriodExpiry, hs, taken]

theorem periodExpires_counted (h : (s.slot k).sequence ≠ 0xFFFFFFFF) :
    periodExpires k s = expiryByState k (s.setSlot k (s.slot k).counted) := if_neg h

theorem periodExpires_exhausted (h : (s.slot k).sequence = 0xFFFFFFFF) :
    periodExpires k s = sequenceExhausted k (s.setSlot k (s.slot k).gridAdvanced) := if_pos h

section
variable (h : (s.slot k).state ≠ .idle)
include h

theorem exec_periodExpiry_counted (hq : (s.slot k).sequence ≠ 0xFFFFFFFF) :
    exec (.periodExpiry k) s = .next (react (expiryByState k
      ((reachInstant (s.slot k).nextDue s).setSlot k (s.slot k).counted))) := by
  rw [exec_periodExpiry h, periodExpires_counted (by rwa [reachInstant_slot]), reachInstant_slot]

theorem exec_periodExpiry_exhausted (hq : (s.slot k).sequence = 0xFFFFFFFF) :
    exec (.periodExpiry k) s = .next (react (sequenceExhausted k
      ((reachInstant (s.slot k).nextDue s).setSlot k (s.slot k).gridAdvanced))) := by
  rw [exec_periodExpiry h, periodExpires_exhausted (by rwa [reachInstant_slot]), reachInstant_slot]

end

end

/-! ### The pending attention queue (R173) -/

theorem settleAttention_none {s : State} (h : s.attention.queue = [] ∨ s.loop.state ≠ .running ∨
    freeIn internalContexts s = none) : settleAttention s = none := by
  unfold settleAttention
  split
  · next hq hc =>
    have down : s.loop.state ≠ .running := by simpa [hq, hc] using h
    exact if_neg down
  · rfl

/-- The key at the head leaves the queue, its entry is RUNNING, and its list begins. -/
theorem settleAttention_hands {s : State} {key : Key} {rest : List Key} {e : AttentionEntry} {l : ListId} {c : CtxId}
    (hq : s.attention.queue = key :: rest) (he : s.attentionEntry key = some e) (hl : e.list = some l)
    (hr : s.loop.state = .running) (hc : freeIn internalContexts s = some c) :
    settleAttention s = some (startRun c (.attention key) l
      ((s.setAttention { s.attention with queue := rest }).modAttention key fun e => { e with state := .running })) := by
  have found : (s.setAttention { s.attention with queue := rest }).attentionEntry key = some e := he
  cases e
  cases hl
  simp only [settleAttention, hq, hc, if_pos hr, found]

/-- Settles O55: the grid and the sequence number first, then each slot state by its own equation; an internal run by what its
list's state hands to the first step, and the attention queue by its head and the lowest FREE internal context. -/
theorem periodExpiryByState : Obligations.PeriodExpiryByState := by
  unfold Obligations.PeriodExpiryByState
  refine ⟨fun k s => ?_, fun c owner l s steps words out refs h => startRun_loaded h owner, fun s => ?_⟩
  · intro x v due missed
    have free : freeIn internalContexts v = freeIn internalContexts s := freeIn_reachInstant _ _ _
    have loop : v.loop = s.loop := reachInstant_loop _ _
    have serves {st : SlotState} (h : x.state = st) (hs : st ≠ .idle) : (s.slot k).state ≠ .idle := h ▸ hs
    refine ⟨exec_periodExpiry_idle, fun hq => ⟨?_, ?_, ?_, ?_⟩, fun hq => ⟨?_, ?_⟩⟩
    · intro c active running unended internal isFree lowest
      rw [exec_periodExpiry_counted (serves active nofun) hq]
      exact next_react_congr (expiryByState_starts active (loop ▸ running) unended
        (free.trans (freeIn_internal_lowest internal isFree lowest)))
    · intro active running busy
      rw [exec_periodExpiry_counted (serves active nofun) hq]
      exact next_react_congr (expiryByState_misses active (loop ▸ running)
        (busy.imp_right fun taken => free.trans (freeIn_internal_none taken)))
    · intro resting
      rw [exec_periodExpiry_counted (resting.elim (serves · nofun) (serves · nofun)) hq]
      exact next_react_congr (expiryByState_resting resting)
    · intro active down
      rw [exec_periodExpiry_counted (serves active nofun) hq]
      exact next_react_congr (expiryByState_loopDown active (loop ▸ down))
    · intro served
      rw [exec_periodExpiry_exhausted (served.elim (serves · nofun) (serves · nofun)) hq]
      exact next_react_congr (sequenceExhausted_suspends served)
    · intro suspended
      rw [exec_periodExpiry_exhausted (serves suspended nofun) hq]
      exact next_react_congr (sequenceExhausted_suspended suspended)
  · refine ⟨fun h => settleAttention_none (h.imp_right (Or.imp_right freeIn_internal_none)), ?_⟩
    intro key rest e l c hq he hl running internal isFree lowest
    exact settleAttention_hands hq he hl running (freeIn_internal_lowest internal isFree lowest)

end Sys2Proof.Machine
end

section
/-! SUPPORT. What every operation of the part does to the notices of different subjects (R192, R193): it keeps them apart, and
makes none apart that were not. So each rule is an equivalence, which `simp` carries through operations within one another.
One lemma for each operation that others use, up to `react`. -/

namespace Sys2Proof.Machine

/-! ### Updates of other blocks -/

@[simp] theorem State.setRegs_noticesDistinct (s : State) (x : Regs) :
    NoticesDistinct (s.setRegs x) ↔ NoticesDistinct s := Iff.rfl
@[simp] theorem State.setParams_noticesDistinct (s : State) (x : Params) :
    NoticesDistinct (s.setParams x) ↔ NoticesDistinct s := Iff.rfl
@[simp] theorem State.setTimebase_noticesDistinct (s : State) (x : Instant) :
    NoticesDistinct (s.setTimebase x) ↔ NoticesDistinct s := Iff.rfl
@[simp] theorem State.setHost_noticesDistinct (s : State) (x : HostPort) :
    NoticesDistinct (s.setHost x) ↔ NoticesDistinct s := Iff.rfl
@[simp] theorem State.setRings_noticesDistinct (s : State) (x : RingEngine) :
    NoticesDistinct (s.setRings x) ↔ NoticesDistinct s := Iff.rfl
@[simp] theorem State.setAdmin_noticesDistinct (s : State) (x : AdminUnit) :
    NoticesDistinct (s.setAdmin x) ↔ NoticesDistinct s := Iff.rfl
@[simp] theorem State.setHandOver_noticesDistinct (s : State) (x : List CtxId) :
    NoticesDistinct (s.setHandOver x) ↔ NoticesDistinct s := Iff.rfl
@[simp] theorem State.setWindow_noticesDistinct (s : State) (x : Window) :
    NoticesDistinct (s.setWindow x) ↔ NoticesDistinct s := Iff.rfl
@[simp] theorem State.setDeferral_noticesDistinct (s : State) (x : DeferTable) :
    NoticesDistinct (s.setDeferral x) ↔ NoticesDistinct s := Iff.rfl
@[simp] theorem State.setLoop_noticesDistinct (s : State) (x : LoopController) :
    NoticesDistinct (s.setLoop x) ↔ NoticesDistinct s := Iff.rfl
@[simp] theorem State.setNodes_noticesDistinct (s : State) (x : NodeUnit) :
    NoticesDistinct (s.setNodes x) ↔ NoticesDistinct s := Iff.rfl
@[simp] theorem State.setAttention_noticesDistinct (s : State) (x : AttentionUnit) :
    NoticesDistinct (s.setAttention x) ↔ NoticesDistinct s := Iff.rfl
@[simp] theorem State.setEventRing_noticesDistinct (s : State) (x : EventRing) :
    NoticesDistinct (s.setEventRing x) ↔ NoticesDistinct s := Iff.rfl
@[simp] theorem State.setCtx_noticesDistinct (s : State) (c : CtxId) (x : Context) :
    NoticesDistinct (s.setCtx c x) ↔ NoticesDistinct s := Iff.rfl
@[simp] theorem State.setStored_noticesDistinct (s : State) (l : ListId) (x : StoredList) :
    NoticesDistinct (s.setStored l x) ↔ NoticesDistinct s := Iff.rfl
@[simp] theorem State.setSubRing_noticesDistinct (s : State) (r : RingId) (x : SubRing) :
    NoticesDistinct (s.setSubRing r x) ↔ NoticesDistinct s := Iff.rfl
@[simp] theorem State.setCompRing_noticesDistinct (s : State) (k : RingId) (x : CompRing) :
    NoticesDistinct (s.setCompRing k x) ↔ NoticesDistinct s := Iff.rfl
@[simp] theorem State.setCaptureRing_noticesDistinct (s : State) (k : SlotId) (x : CaptureRing) :
    NoticesDistinct (s.setCaptureRing k x) ↔ NoticesDistinct s := Iff.rfl
@[simp] theorem State.setSlot_noticesDistinct (s : State) (k : SlotId) (x : Slot) :
    NoticesDistinct (s.setSlot k x) ↔ NoticesDistinct s := Iff.rfl
@[simp] theorem State.setNode_noticesDistinct (s : State) (n : NodeId) (x : NodeRecord) :
    NoticesDistinct (s.setNode n x) ↔ NoticesDistinct s := Iff.rfl
@[simp] theorem State.setEntry_noticesDistinct (s : State) (d : DeferId) (x : DeferEntry) :
    NoticesDistinct (s.setEntry d x) ↔ NoticesDistinct s := Iff.rfl
@[simp] theorem State.setHeldOver_noticesDistinct (s : State) (n : NodeId) (x : BitVec 16) :
    NoticesDistinct (s.setHeldOver n x) ↔ NoticesDistinct s := Iff.rfl
@[simp] theorem State.setTag_noticesDistinct (s : State) (t : Tag) (x : Option Transaction) :
    NoticesDistinct (s.setTag t x) ↔ NoticesDistinct s := Iff.rfl
@[simp] theorem State.modCtx_noticesDistinct (s : State) (c : CtxId) (f : Context → Context) :
    NoticesDistinct (s.modCtx c f) ↔ NoticesDistinct s := Iff.rfl
@[simp] theorem State.modNode_noticesDistinct (s : State) (n : NodeId) (f : NodeRecord → NodeRecord) :
    NoticesDistinct (s.modNode n f) ↔ NoticesDistinct s := Iff.rfl
@[simp] theorem State.modAttention_noticesDistinct (s : State) (key : Key) (f : AttentionEntry → AttentionEntry) :
    NoticesDistinct (s.modAttention key f) ↔ NoticesDistinct s := Iff.rfl
@[simp] theorem State.setDoubt_noticesDistinct (s : State) (n : NodeId) (t : Tag) (b : Bool) :
    NoticesDistinct (s.setDoubt n t b) ↔ NoticesDistinct s := Iff.rfl

/-! ### Notices handed over (R193) -/

/-- A notice handed over keeps the subjects of the queue, or adds a new one: it makes no two notices of one subject, and
takes none away (R193). -/
@[simp] theorem notify_noticesDistinct_iff (sub : Subject) (b : NoticeBody) (s : State) :
    NoticesDistinct (notify sub b s) ↔ NoticesDistinct s := by
  refine ⟨fun h => ?_, notify_noticesDistinct sub b⟩
  unfold NoticesDistinct notify at h
  rw [State.setNotices_notices, insertNotice_subjects] at h
  split at h
  · exact h
  · exact (List.nodup_append.mp h).1

@[simp] theorem notifyNode_noticesDistinct (n : NodeId) (reason : NodeReason) (sources : Byte) (s : State) :
    NoticesDistinct (notifyNode n reason sources s) ↔ NoticesDistinct s := notify_noticesDistinct_iff _ _ s

@[simp] theorem notifyLoop_noticesDistinct (reason : LoopReason) (s : State) :
    NoticesDistinct (notifyLoop reason s) ↔ NoticesDistinct s := notify_noticesDistinct_iff _ _ s

@[simp] theorem notifySlot_noticesDistinct (k : SlotId) (reason : SlotReason) (s : State) :
    NoticesDistinct (notifySlot k reason s) ↔ NoticesDistinct s := notify_noticesDistinct_iff _ _ s

/-- Operations one after another keep what each of them keeps. -/
theorem foldl_noticesDistinct {α : Type} {f : State → α → State} (h : ∀ s a, NoticesDistinct (f s a) ↔ NoticesDistinct s)
    (l : List α) (s : State) : NoticesDistinct (l.foldl f s) ↔ NoticesDistinct s := by
  induction l generalizing s with
  | nil => rfl
  | cons a l ih => rw [List.foldl_cons, ih, h]

/-! ### Messages, references and records handed over -/

@[simp] theorem sendMessage_noticesDistinct (v : Vec) (s : State) :
    NoticesDistinct (sendMessage v s) ↔ NoticesDistinct s := by
  obtain ⟨h, eq⟩ := sendMessage_eq v s
  simp [eq]

@[simp] theorem reachInstant_noticesDistinct (due : Instant) (s : State) :
    NoticesDistinct (reachInstant due s) ↔ NoticesDistinct s := by
  obtain ⟨i, eq⟩ := reachInstant_eq due s
  simp [eq]

@[simp] theorem takeReference_noticesDistinct (id : ListId) (s : State) :
    NoticesDistinct (takeReference id s) ↔ NoticesDistinct s := by
  unfold takeReference
  split <;> simp

@[simp] theorem releaseReference_noticesDistinct (id : ListId) (s : State) :
    NoticesDistinct (releaseReference id s) ↔ NoticesDistinct s := by
  unfold releaseReference
  split <;> simp

@[simp] theorem freeContext_noticesDistinct (c : CtxId) (s : State) :
    NoticesDistinct (freeContext c s) ↔ NoticesDistinct s := by
  unfold freeContext
  dsimp only
  split <;> simp

@[simp] theorem releaseSource_noticesDistinct (p : PostedRecord) (s : State) :
    NoticesDistinct (releaseSource p s) ↔ NoticesDistinct s := by
  cases p <;> simp [releaseSource, clearAdmin]

@[simp] theorem handRecord_noticesDistinct (k : RingId) (p : PostedRecord) (s : State) :
    NoticesDistinct (handRecord k p s) ↔ NoticesDistinct s := by
  unfold handRecord
  dsimp only
  split <;> simp

@[simp] theorem endAdmin_noticesDistinct (outcome : AdminOutcome) (detail : Option Nat) (s : State) :
    NoticesDistinct (endAdmin outcome detail s) ↔ NoticesDistinct s := by
  unfold endAdmin
  split <;> simp

@[simp] theorem waitAdmin_noticesDistinct (event : AdminWait) (s : State) :
    NoticesDistinct (waitAdmin event s) ↔ NoticesDistinct s := by
  unfold waitAdmin
  split <;> simp

@[simp] theorem releaseList_noticesDistinct (x : Context) (s : State) :
    NoticesDistinct (releaseList x s) ↔ NoticesDistinct s := by
  unfold releaseList
  split <;> simp

@[simp] theorem handJob_noticesDistinct (c : CtxId) (s : State) :
    NoticesDistinct (handJob c s) ↔ NoticesDistinct s := by
  unfold handJob
  split <;> simp

@[simp] theorem handNext_noticesDistinct (s : State) (c : CtxId) :
    NoticesDistinct (handNext s c) ↔ NoticesDistinct s := by
  unfold handNext
  split <;> simp

@[simp] theorem handOverRecords_noticesDistinct (s : State) :
    NoticesDistinct (handOverRecords s) ↔ NoticesDistinct s := foldl_noticesDistinct handNext_noticesDistinct _ _

@[simp] theorem enterCompleting_noticesDistinct (c : CtxId) (outcome : JobOutcome) (s : State) :
    NoticesDistinct (enterCompleting c outcome s) ↔ NoticesDistinct s := by
  simp [enterCompleting]

@[simp] theorem readOutlived_noticesDistinct (c : CtxId) (s : State) :
    NoticesDistinct (readOutlived c s) ↔ NoticesDistinct s := by
  simp [readOutlived]

/-! ### The attention unit -/

@[simp] theorem desiredChanged_noticesDistinct (n : NodeId) (s : State) :
    NoticesDistinct (desiredChanged n s) ↔ NoticesDistinct s := by
  unfold desiredChanged
  split <;> simp

@[simp] theorem enterPosting_noticesDistinct (key : Key) (outcome : RunOutcome) (stopStep : Option Nat)
    (stopCause : Option Cause) (words : List Word) (s : State) :
    NoticesDistinct (enterPosting key outcome stopStep stopCause words s) ↔ NoticesDistinct s := by
  unfold enterPosting
  split <;> simp

@[simp] theorem fireEntry_noticesDistinct (e : AttentionEntry) (s : State) :
    NoticesDistinct (fireEntry e s) ↔ NoticesDistinct s := by
  unfold fireEntry
  split <;> simp [enterPending]

@[simp] theorem takeSource_noticesDistinct (key : Key) (s : State) :
    NoticesDistinct (takeSource key s) ↔ NoticesDistinct s := by
  unfold takeSource
  split
  · rfl
  · split <;> simp

@[simp] theorem takeSourceSet_noticesDistinct (n : NodeId) (set : Byte) (s : State) :
    NoticesDistinct (takeSourceSet n set s) ↔ NoticesDistinct s := by
  have sources := foldl_noticesDistinct (fun s i => takeSource_noticesDistinct ⟨n, i⟩ s) (sourcesOf set) s
  unfold takeSourceSet
  dsimp only
  split <;> simp [sources]

@[simp] theorem postingEnds_noticesDistinct (key : Key) (s : State) :
    NoticesDistinct (postingEnds key s) ↔ NoticesDistinct s := by
  unfold postingEnds
  split
  · rfl
  · split
    · simp
    · split <;> simp

/-! ### The cyclic scheduler -/

@[simp] theorem finishSlotStop_noticesDistinct (k : SlotId) (s : State) :
    NoticesDistinct (finishSlotStop k s) ↔ NoticesDistinct s := by
  unfold finishSlotStop returnToIdle
  dsimp only
  split <;> simp

@[simp] theorem suspendSlot_noticesDistinct (k : SlotId) (reason : SlotReason) (s : State) :
    NoticesDistinct (suspendSlot k reason s) ↔ NoticesDistinct s := by
  unfold suspendSlot
  dsimp only
  split <;> simp

@[simp] theorem answerOffer_noticesDistinct (k : SlotId) (answer : OfferAnswer) (s : State) :
    NoticesDistinct (answerOffer k answer s) ↔ NoticesDistinct s := by
  unfold answerOffer
  dsimp only
  split
  · simp
  · cases answer with
    | posted => simp
    | fault => simp
    | full => dsimp only; split <;> simp

@[simp] theorem slotRunEnds_noticesDistinct (k : SlotId) (e : RunEnding) (s : State) :
    NoticesDistinct (slotRunEnds k e s) ↔ NoticesDistinct s := by
  unfold slotRunEnds offerSnapshot
  split
  · rfl
  · dsimp only
    split <;> simp

@[simp] theorem slotLoopRunning_noticesDistinct (k : SlotId) (s : State) :
    NoticesDistinct (slotLoopRunning k s) ↔ NoticesDistinct s := by
  unfold slotLoopRunning
  dsimp only
  split <;> simp

/-! ### The job engine -/

@[simp] theorem pushClaim_noticesDistinct (op : Operation) (s : State) :
    NoticesDistinct (pushClaim op s) ↔ NoticesDistinct s := by
  unfold pushClaim
  split <;> simp

@[simp] theorem endRun_noticesDistinct (c : CtxId) (s : State) : NoticesDistinct (endRun c s) ↔ NoticesDistinct s := by
  unfold endRun attentionRunEnds
  dsimp only
  split <;> simp

@[simp] theorem endJob_noticesDistinct (c : CtxId) (s : State) : NoticesDistinct (endJob c s) ↔ NoticesDistinct s := by
  unfold endJob
  split <;> simp

@[simp] theorem claimOperation_noticesDistinct (c : CtxId) (p : Step) (n : NodeId) (s : State) :
    NoticesDistinct (claimOperation c p n s).state ↔ NoticesDistinct s := by
  unfold claimOperation
  dsimp only
  split <;> simp

@[simp] theorem beginOperation_noticesDistinct (c : CtxId) (p : Step) (s : State) :
    NoticesDistinct (beginOperation c p s).state ↔ NoticesDistinct s := by
  unfold beginOperation beginStaging
  split
  · rfl
  · split
    · rfl
    · split
      · split
        · rfl
        · split <;> simp
      · simp

@[simp] theorem beginStep_noticesDistinct (c : CtxId) (p : Step) (s : State) :
    NoticesDistinct (beginStep c p s).state ↔ NoticesDistinct s := by
  unfold beginStep
  dsimp only
  split
  · simp
  · split
    · split <;> simp
    · simp

/-- Steps started one after another, from the step index to the first that waits. -/
@[simp] theorem runSteps_noticesDistinct (fuel : Nat) (c : CtxId) (s : State) :
    NoticesDistinct (runSteps fuel c s) ↔ NoticesDistinct s := by
  induction fuel generalizing s with
  | zero => rfl
  | succ fuel ih =>
    unfold runSteps
    split
    · simp
    · rename_i p _
      have begun := beginStep_noticesDistinct c p s
      split
      · rename_i t ht
        rwa [ht] at begun
      · rename_i e t ht
        rw [ht] at begun
        dsimp only
        split
        · simpa using begun
        · simpa [ih] using begun

@[simp] theorem endPending_noticesDistinct (c : CtxId) (s : State) :
    NoticesDistinct (endPending c s) ↔ NoticesDistinct s := by
  simp [endPending]

@[simp] theorem endStep_noticesDistinct (c : CtxId) (e : StepEnd) (s : State) :
    NoticesDistinct (endStep c e s) ↔ NoticesDistinct s := by
  unfold endStep afterStep runList
  split
  · rfl
  · split
    · simp
    · split <;> simp

@[simp] theorem nextOperation_noticesDistinct (c : CtxId) (p : Step) (s : State) :
    NoticesDistinct (nextOperation c p s) ↔ NoticesDistinct s := by
  have begun := beginOperation_noticesDistinct c p s
  unfold nextOperation
  split
  · simp
  · split
    · rename_i t ht
      rwa [ht] at begun
    · rename_i e t ht
      rw [ht] at begun
      simpa using begun

@[simp] theorem awaitPause_noticesDistinct (c : CtxId) (p : Step) (s : State) :
    NoticesDistinct (awaitPause c p s) ↔ NoticesDistinct s := by
  unfold awaitPause
  split <;> simp

@[simp] theorem finishDone_noticesDistinct (c : CtxId) (valid : Bool) (delivered : Nat) (s : State) :
    NoticesDistinct (finishDone c valid delivered s) ↔ NoticesDistinct s := by
  unfold finishDone
  split
  · rfl
  · dsimp only
    split <;> simp

@[simp] theorem takeDone_noticesDistinct (c : CtxId) (valid : Bool) (delivered : Nat) (data : List Word) (s : State) :
    NoticesDistinct (takeDone c valid delivered data s) ↔ NoticesDistinct s := by
  unfold takeDone
  split
  · rfl
  · split
    · split
      · split <;> simp
      · simp
    · simp

/-- An outcome that reaches a context, with all that the job does next. -/
@[simp] theorem deliver_noticesDistinct (c : CtxId) (o : Outcome) (s : State) :
    NoticesDistinct (deliver c o s) ↔ NoticesDistinct s := by
  unfold deliver
  split
  · cases o <;> simp
  · rfl

@[simp] theorem pauseLoopDown_noticesDistinct (c : CtxId) (s : State) :
    NoticesDistinct (pauseLoopDown c s) ↔ NoticesDistinct s := by
  unfold pauseLoopDown
  split <;> simp

@[simp] theorem startRun_noticesDistinct (c : CtxId) (owner : RunOwner) (id : ListId) (s : State) :
    NoticesDistinct (startRun c owner id s) ↔ NoticesDistinct s := by
  simp [startRun, runList]

/-! ### The deferral table -/

@[simp] theorem withdrawQueued_noticesDistinct (p : Operation → Bool) (s : State) :
    NoticesDistinct (withdrawQueued p s) ↔ NoticesDistinct s := Iff.rfl
@[simp] theorem withdrawHeld_noticesDistinct (p : Operation → Bool) (s : State) :
    NoticesDistinct (withdrawHeld p s) ↔ NoticesDistinct s := Iff.rfl
@[simp] theorem withdraw_noticesDistinct (o : Owner) (s : State) :
    NoticesDistinct (withdraw o s) ↔ NoticesDistinct s := Iff.rfl

@[simp] theorem freeEntry_noticesDistinct (d : DeferId) (s : State) :
    NoticesDistinct (freeEntry d s) ↔ NoticesDistinct s := by
  unfold freeEntry
  dsimp only
  split <;> simp

@[simp] theorem holdOver_noticesDistinct (n : NodeId) (d : DeferId) (b : Bool) (s : State) :
    NoticesDistinct (holdOver n d b s) ↔ NoticesDistinct s := Iff.rfl

@[simp] theorem reserve_noticesDistinct (d : DeferId) (op : Operation) (s : State) :
    NoticesDistinct (reserve d op s) ↔ NoticesDistinct s := by
  unfold reserve
  split <;> simp

@[simp] theorem dropReservation_noticesDistinct (r : Option DeferId) (s : State) :
    NoticesDistinct (dropReservation r s) ↔ NoticesDistinct s := by
  unfold dropReservation
  split <;> simp

@[simp] theorem busyOrLimit_noticesDistinct (c : CtxId) (op : Operation) (s : State) :
    NoticesDistinct (busyOrLimit c op s) ↔ NoticesDistinct s := by
  unfold busyOrLimit
  split
  · simp
  · split
    · simp
    · split <;> simp

@[simp] theorem deliverResult_noticesDistinct (c : CtxId) (op : Option Operation) (r : DeferredResult) (s : State) :
    NoticesDistinct (deliverResult c op r s) ↔ NoticesDistinct s := by
  unfold deliverResult
  split
  · simp
  · split <;> simp
  · simp

@[simp] theorem orphanEntry_noticesDistinct (d : DeferId) (s : State) :
    NoticesDistinct (orphanEntry d s) ↔ NoticesDistinct s := by
  unfold orphanEntry
  split
  · split
    · split <;> simp
    · simp
  · rfl

@[simp] theorem orphanOwned_noticesDistinct (c : CtxId) (s : State) :
    NoticesDistinct (orphanOwned c s) ↔ NoticesDistinct s :=
  foldl_noticesDistinct (fun s d => orphanEntry_noticesDistinct d s) _ s

@[simp] theorem entryDeferred_noticesDistinct (c : CtxId) (d : DeferId) (op : Operation) (s : State) :
    NoticesDistinct (entryDeferred c d op s) ↔ NoticesDistinct s := by
  unfold entryDeferred
  split
  · simp
  · dsimp only
    split <;> simp
  · rfl

@[simp] theorem collected_noticesDistinct (n : NodeId) (d : DeferId) (r : DeferredResult) (s : State) :
    NoticesDistinct (collected n d r s) ↔ NoticesDistinct s := by
  unfold collected
  split
  · split <;> simp
  · simp

@[simp] theorem cancelEnds_noticesDistinct (d : DeferId) (s : State) (freed held : Bool) :
    NoticesDistinct (cancelEnds d s freed held) ↔ NoticesDistinct s := by
  unfold cancelEnds
  split
  · split
    · split <;> simp
    · simp
  · rfl

@[simp] theorem entryNodeLeft_noticesDistinct (n : NodeId) (s : State) (d : DeferId) :
    NoticesDistinct (entryNodeLeft n s d) ↔ NoticesDistinct s := by
  unfold entryNodeLeft
  split
  · split <;> simp
  · split <;> simp
  · rfl

@[simp] theorem entryNodeReset_noticesDistinct (n : NodeId) (s : State) (d : DeferId) :
    NoticesDistinct (entryNodeReset n s d) ↔ NoticesDistinct s := by
  unfold entryNodeReset
  split
  · split <;> simp
  · split <;> simp
  · split <;> simp
  · rfl

@[simp] theorem entryLoopDown_noticesDistinct (s : State) (d : DeferId) :
    NoticesDistinct (entryLoopDown s d) ↔ NoticesDistinct s := by
  unfold entryLoopDown
  split <;> simp

@[simp] theorem tableLoopDown_noticesDistinct (s : State) : NoticesDistinct (tableLoopDown s) ↔ NoticesDistinct s := by
  have entries := foldl_noticesDistinct entryLoopDown_noticesDistinct (List.finRange 16) s
  simpa [tableLoopDown] using entries

/-! ### The loop controller -/

@[simp] theorem handFrame_noticesDistinct (f : Frame) (s : State) :
    NoticesDistinct (handFrame f s) ↔ NoticesDistinct s := by
  unfold handFrame
  split <;> simp

@[simp] theorem enterTraining_noticesDistinct (rate : RateCode) (s : State) :
    NoticesDistinct (enterTraining rate s) ↔ NoticesDistinct s := by
  simp [enterTraining]

@[simp] theorem startRequest_noticesDistinct (s : State) : NoticesDistinct (startRequest s) ↔ NoticesDistinct s := by
  simp [startRequest]

@[simp] theorem enterRunning_noticesDistinct (s : State) : NoticesDistinct (enterRunning s) ↔ NoticesDistinct s := by
  have slots := foldl_noticesDistinct (fun s k => slotLoopRunning_noticesDistinct k s) (List.finRange 8)
  unfold enterRunning
  dsimp only
  split <;> simp [slots]

@[simp] theorem claimNextCensus_noticesDistinct (s : State) :
    NoticesDistinct (claimNextCensus s) ↔ NoticesDistinct s := by
  unfold claimNextCensus
  split
  · rfl
  · split <;> simp

@[simp] theorem beginCensus_noticesDistinct (byCommand : Bool) (s : State) :
    NoticesDistinct (beginCensus byCommand s) ↔ NoticesDistinct s := by
  simp [beginCensus]

@[simp] theorem lock_noticesDistinct (s : State) : NoticesDistinct (lock s) ↔ NoticesDistinct s := by
  simp [lock]

@[simp] theorem switchRate_noticesDistinct (s : State) : NoticesDistinct (switchRate s) ↔ NoticesDistinct s := by
  unfold switchRate
  split <;> simp

@[simp] theorem takeAgreedRate_noticesDistinct (agreed : RateCode) (s : State) :
    NoticesDistinct (takeAgreedRate agreed s) ↔ NoticesDistinct s := by
  unfold takeAgreedRate
  split <;> simp

/-! ### The node unit -/

@[simp] theorem nodeLeft_noticesDistinct (n : NodeId) (s : State) :
    NoticesDistinct (nodeLeft n s) ↔ NoticesDistinct s := by
  have entries := foldl_noticesDistinct (entryNodeLeft_noticesDistinct n) (List.finRange 16) s
  simpa [nodeLeft] using entries

@[simp] theorem countReturn_noticesDistinct (n : NodeId) (untouched : Bool) (s : State) :
    NoticesDistinct (countReturn n untouched s) ↔ NoticesDistinct s := by
  unfold countReturn
  dsimp only
  split
  · rfl
  · split
    · split <;> simp
    · simp

@[simp] theorem setQueryFlag_noticesDistinct (n : NodeId) (b : Bool) (s : State) :
    NoticesDistinct (setQueryFlag n b s) ↔ NoticesDistinct s := Iff.rfl

@[simp] theorem censusNews_noticesDistinct (n : NodeId) (before : NodeState) (changed : Bool) (s : State) :
    NoticesDistinct (censusNews n before changed s) ↔ NoticesDistinct s := by
  have told : NoticesDistinct (if changed then notifyNode n .identityChanged 0 s
      else if before ≠ (s.node n).state then notifyNode n .census 0 s else s) ↔ NoticesDistinct s := by
    split
    · simp
    · split <;> simp
  unfold censusNews
  dsimp only
  split
  · simpa using told
  · exact told

@[simp] theorem censusFound_noticesDistinct (n : NodeId) (i : Identity) (s : State) :
    NoticesDistinct (censusFound n i s) ↔ NoticesDistinct s := by
  unfold censusFound
  dsimp only
  split <;> simp

@[simp] theorem censusEmpty_noticesDistinct (n : NodeId) (s : State) :
    NoticesDistinct (censusEmpty n s) ↔ NoticesDistinct s := by
  simp [censusEmpty]

@[simp] theorem censusFailed_noticesDistinct (n : NodeId) (s : State) :
    NoticesDistinct (censusFailed n s) ↔ NoticesDistinct s := by
  unfold censusFailed
  dsimp only
  split <;> simp

@[simp] theorem censusDone_noticesDistinct (byCommand : Bool) (s : State) :
    NoticesDistinct (censusDone byCommand s) ↔ NoticesDistinct s := by
  unfold censusDone
  dsimp only
  split
  · split <;> simp
  · simp

@[simp] theorem censusStep_noticesDistinct (s : State) : NoticesDistinct (censusStep s) ↔ NoticesDistinct s := by
  unfold censusStep
  split
  · rfl
  · dsimp only
    split <;> simp

@[simp] theorem abandonCensus_noticesDistinct (s : State) : NoticesDistinct (abandonCensus s) ↔ NoticesDistinct s := by
  unfold abandonCensus
  split
  · rfl
  · dsimp only
    split <;> simp

@[simp] theorem nodeResetDone_noticesDistinct (n : NodeId) (s : State) :
    NoticesDistinct (nodeResetDone n s) ↔ NoticesDistinct s := by
  have entries := foldl_noticesDistinct (entryNodeReset_noticesDistinct n) (List.finRange 16)
  simp [nodeResetDone, entries]

@[simp] theorem nodeResetEnds_noticesDistinct (outcome : AdminOutcome) (s : State) :
    NoticesDistinct (nodeResetEnds outcome s) ↔ NoticesDistinct s := by
  unfold nodeResetEnds
  split <;> simp

@[simp] theorem maskDone_noticesDistinct (n : NodeId) (carried : Byte) (s : State) :
    NoticesDistinct (maskDone n carried s) ↔ NoticesDistinct s := Iff.rfl
@[simp] theorem maskRefused_noticesDistinct (n : NodeId) (s : State) :
    NoticesDistinct (maskRefused n s) ↔ NoticesDistinct s := Iff.rfl

/-! ### The window controller: endings -/

@[simp] theorem contextEnds_noticesDistinct (c : CtxId) (n : NodeId) (e : Ending) (s : State) :
    NoticesDistinct (contextEnds c n e s) ↔ NoticesDistinct s := by
  unfold contextEnds
  split
  · simp
  · split <;> simp
  · simp

@[simp] theorem queryEnds_noticesDistinct (n : NodeId) (e : Ending) (s : State) :
    NoticesDistinct (queryEnds n e s) ↔ NoticesDistinct s := by
  unfold queryEnds
  split
  · split
    · simp
    · split <;> simp
  · rfl

@[simp] theorem maskEnds_noticesDistinct (n : NodeId) (carried : Byte) (e : Ending) (s : State) :
    NoticesDistinct (maskEnds n carried e s) ↔ NoticesDistinct s := by
  unfold maskEnds
  split
  · split
    · simp
    · split <;> simp
  · rfl

@[simp] theorem collectEnds_noticesDistinct (n : NodeId) (e : Ending) (s : State) :
    NoticesDistinct (collectEnds n e s) ↔ NoticesDistinct s := by
  unfold collectEnds
  split
  · split <;> simp
  · rfl

@[simp] theorem cancelOpEnds_noticesDistinct (d : DeferId) (n : NodeId) (withdrawn : Bool) (e : Ending) (s : State) :
    NoticesDistinct (cancelOpEnds d n withdrawn e s) ↔ NoticesDistinct s := by
  unfold cancelOpEnds
  cases e with
  | good f =>
    dsimp only
    split
    · split <;> simp
    · split <;> simp
  | busyLimit | corruptLimit | nodeState | loopDown => dsimp only; split <;> simp
  | notPerformed => rfl

@[simp] theorem censusEnds_noticesDistinct (n : NodeId) (e : Ending) (s : State) :
    NoticesDistinct (censusEnds n e s) ↔ NoticesDistinct s := by
  unfold censusEnds
  split
  · rfl
  · cases e with
    | good f =>
      dsimp only
      split
      · simp
      · split <;> simp
    | busyLimit | corruptLimit | nodeState | loopDown | notPerformed => simp

@[simp] theorem resetEnds_noticesDistinct (n : NodeId) (e : Ending) (s : State) :
    NoticesDistinct (resetEnds n e s) ↔ NoticesDistinct s := by
  cases e with
  | good f =>
    unfold resetEnds
    dsimp only
    split
    · simp
    · split <;> simp
  | busyLimit | corruptLimit | nodeState | loopDown | notPerformed => simp [resetEnds]

/-- An operation's ending at its owner, owner by owner. -/
@[simp] theorem ownerEnds_noticesDistinct (op : Operation) (carried : Byte) (withdrawn : Bool) (e : Ending) (s : State) :
    NoticesDistinct (ownerEnds op carried withdrawn e s) ↔ NoticesDistinct s := by
  unfold ownerEnds
  split <;> simp

@[simp] theorem endTransaction_noticesDistinct (t : Tag) (tr : Transaction) (e : Ending) (s : State) :
    NoticesDistinct (endTransaction t tr e s) ↔ NoticesDistinct s := by
  simp [endTransaction]

@[simp] theorem endDoubtful_noticesDistinct (t : Tag) (tr : Transaction) (e : Ending) (s : State) :
    NoticesDistinct (endDoubtful t tr e s) ↔ NoticesDistinct s := by
  simp [endDoubtful]

/-! ### The window controller: returns and grants -/

@[simp] theorem resend_noticesDistinct (t : Tag) (tr : Transaction) (corrupt : Bool) (s : State) :
    NoticesDistinct (resend t tr corrupt s) ↔ NoticesDistinct s := by
  simp [resend]

@[simp] theorem corruptReturn_noticesDistinct (t : Tag) (tr : Transaction) (s : State) :
    NoticesDistinct (corruptReturn t tr s) ↔ NoticesDistinct s := by
  unfold corruptReturn
  split
  · simp
  · split
    · simp
    · split
      · simp
      · split <;> simp

@[simp] theorem lostReturn_noticesDistinct (t : Tag) (tr : Transaction) (s : State) :
    NoticesDistinct (lostReturn t tr s) ↔ NoticesDistinct s := by
  unfold lostReturn
  split
  · simp
  · split
    · simp
    · split <;> simp

@[simp] theorem settlePair_noticesDistinct (kind : FrameKind) (n : NodeId) (t : Tag) (status : ReplyStatus) (s : State) :
    NoticesDistinct (settlePair kind n t status s) ↔ NoticesDistinct s := by
  unfold settlePair toggle
  dsimp only
  split <;> split <;> simp

@[simp] theorem countKind_noticesDistinct (kind : FrameKind) (n : NodeId) (status : ReplyStatus) (s : State) :
    NoticesDistinct (countKind kind n status s) ↔ NoticesDistinct s := by
  unfold countKind
  split <;> simp

@[simp] theorem busyReturn_noticesDistinct (t : Tag) (tr : Transaction) (s : State) :
    NoticesDistinct (busyReturn t tr s) ↔ NoticesDistinct s := by
  unfold busyReturn
  dsimp only
  split
  · simp
  · split
    · simp
    · split
      · simp
      · split <;> simp

@[simp] theorem finalReturn_noticesDistinct (t : Tag) (tr : Transaction) (f : Frame) (s : State) :
    NoticesDistinct (finalReturn t tr f s) ↔ NoticesDistinct s := by
  unfold finalReturn
  split <;> simp

@[simp] theorem sendOwnFrame_noticesDistinct (t : Tag) (tr : Transaction) (s : State) :
    NoticesDistinct (sendOwnFrame t tr s) ↔ NoticesDistinct s := by
  unfold sendOwnFrame
  dsimp only
  split <;> simp

@[simp] theorem probeReturn_noticesDistinct (t : Tag) (tr : Transaction) (f : Frame) (s : State) :
    NoticesDistinct (probeReturn t tr f s) ↔ NoticesDistinct s := by
  unfold probeReturn
  split
  · simp
  · split
    · simp
    · split
      · simp
      · split <;> simp

@[simp] theorem goodReturn_noticesDistinct (t : Tag) (tr : Transaction) (f : Frame) (s : State) :
    NoticesDistinct (goodReturn t tr f s) ↔ NoticesDistinct s := by
  unfold goodReturn
  dsimp only
  split
  · simp
  · split
    · simp
    · split <;> simp

@[simp] theorem holdTag_noticesDistinct (op : Operation) (t : Tag) (s : State) :
    NoticesDistinct (holdTag op t s) ↔ NoticesDistinct s := by
  unfold holdTag
  dsimp only
  split <;> split <;> simp

/-! ### The loop going down -/

@[simp] theorem transactionLoopDown_noticesDistinct (s : State) (tr : Transaction) :
    NoticesDistinct (transactionLoopDown s tr) ↔ NoticesDistinct s :=
  ownerEnds_noticesDistinct _ _ _ _ s

@[simp] theorem operationLoopDown_noticesDistinct (s : State) (op : Operation) :
    NoticesDistinct (operationLoopDown s op) ↔ NoticesDistinct s :=
  ownerEnds_noticesDistinct _ _ _ _ s

@[simp] theorem endQueued_noticesDistinct (s : State) :
    NoticesDistinct (endQueued s) ↔ NoticesDistinct s := foldl_noticesDistinct operationLoopDown_noticesDistinct _ _

@[simp] theorem freeWindow_noticesDistinct (s : State) :
    NoticesDistinct (freeWindow s) ↔ NoticesDistinct s :=
  foldl_noticesDistinct (fun s (tr : Transaction) => dropReservation_noticesDistinct tr.reservation s) _ _

@[simp] theorem emptyWindow_noticesDistinct (s : State) : NoticesDistinct (emptyWindow s) ↔ NoticesDistinct s := by
  have held := foldl_noticesDistinct transactionLoopDown_noticesDistinct
  have queued := foldl_noticesDistinct operationLoopDown_noticesDistinct
  simp [emptyWindow, dropQueued, held, queued]

@[simp] theorem jobsLoopDown_noticesDistinct (s : State) :
    NoticesDistinct (jobsLoopDown s) ↔ NoticesDistinct s :=
  foldl_noticesDistinct (fun s c => pauseLoopDown_noticesDistinct c s) _ s

@[simp] theorem tellBroken_noticesDistinct (s : State) : NoticesDistinct (tellBroken s) ↔ NoticesDistinct s := by
  simp [tellBroken]

@[simp] theorem enterBroken_noticesDistinct (reason : LoopReason) (s : State) :
    NoticesDistinct (enterBroken reason s) ↔ NoticesDistinct s := by
  simp [enterBroken]

@[simp] theorem failLoopStart_noticesDistinct (reason : LoopReason) (s : State) :
    NoticesDistinct (failLoopStart reason s) ↔ NoticesDistinct s := by
  unfold failLoopStart
  split <;> simp

@[simp] theorem loopBreak_noticesDistinct (reason : LoopReason) (s : State) :
    NoticesDistinct (loopBreak reason s) ↔ NoticesDistinct s := by
  simp [loopBreak]

@[simp] theorem stopRequest_noticesDistinct (s : State) : NoticesDistinct (stopRequest s) ↔ NoticesDistinct s := by
  simp [stopRequest]

@[simp] theorem enterOff_noticesDistinct (s : State) : NoticesDistinct (enterOff s) ↔ NoticesDistinct s := by
  unfold enterOff
  dsimp only
  split <;> simp

@[simp] theorem faultRing_noticesDistinct (k : RingId) (addr : Addr) (s : State) :
    NoticesDistinct (faultRing k addr s) ↔ NoticesDistinct s := by
  have sources := foldl_noticesDistinct (fun s p => releaseSource_noticesDistinct p s)
  simp [faultRing, sources]

@[simp] theorem enterFatal_noticesDistinct (addr : Addr) (s : State) :
    NoticesDistinct (enterFatal addr s) ↔ NoticesDistinct s := by
  unfold enterFatal fatalEndsWait fatalOff
  split <;> simp

/-! ### Jobs reached and admitted -/

@[simp] theorem reachJob_noticesDistinct (c : CtxId) (p : Pending) (s : State) :
    NoticesDistinct (reachJob c p s) ↔ NoticesDistinct s := by
  cases state : (s.ctx c).state with
  | issued =>
    simp only [reachJob, state]
    split <;> simp [setPending]
  | free | admitting | ready | deferred | paused | aborting | completing => simp [reachJob, setPending, state]

@[simp] theorem reachAll_noticesDistinct (cs : List CtxId) (p : Pending) (s : State) :
    NoticesDistinct (reachAll cs p s) ↔ NoticesDistinct s :=
  foldl_noticesDistinct (fun s c => reachJob_noticesDistinct c p s) cs s

@[simp] theorem endAdmission_noticesDistinct (c : CtxId) (s : State) :
    NoticesDistinct (endAdmission c s) ↔ NoticesDistinct s := by
  unfold endAdmission runList
  split <;> simp

@[simp] theorem acquireStored_noticesDistinct (c : CtxId) (id : ListId) (s : State) :
    NoticesDistinct (acquireStored c id s) ↔ NoticesDistinct s := by
  unfold acquireStored
  split <;> simp

@[simp] theorem admitEntry_noticesDistinct (c : CtxId) (e : JobEntry) (r : RingId) (s : State) :
    NoticesDistinct (admitEntry c e r s) ↔ NoticesDistinct s := by
  unfold admitEntry
  dsimp only
  split
  · simp
  · split <;> simp

@[simp] theorem inlineRead_noticesDistinct (c : CtxId) (bytes : List Byte) (s : State) :
    NoticesDistinct (inlineRead c bytes s) ↔ NoticesDistinct s := by
  unfold inlineRead
  split <;> simp

/-! ### What follows an event -/

theorem settleOff_noticesDistinct {s t : State} (h : settleOff s = some t) : NoticesDistinct t ↔ NoticesDistinct s := by
  unfold settleOff at h
  split at h
  · simp [← Option.some.inj h]
  · cases h

theorem settleDrained_noticesDistinct {s t : State} (h : settleDrained s = some t) :
    NoticesDistinct t ↔ NoticesDistinct s := by
  unfold settleDrained removeSubRing at h
  split at h
  · rw [← Option.some.inj h]
    dsimp only
    split <;> simp
  · cases h

theorem settleAttention_noticesDistinct {s t : State} (h : settleAttention s = some t) :
    NoticesDistinct t ↔ NoticesDistinct s := by
  unfold settleAttention at h
  split at h
  · split at h
    · dsimp only at h
      split at h <;> simp [← Option.some.inj h]
    · cases h
  · cases h

theorem settleMask_noticesDistinct {s t : State} (h : settleMask s = some t) : NoticesDistinct t ↔ NoticesDistinct s := by
  unfold settleMask at h
  split at h
  · split at h
    · simp [← Option.some.inj h]
    · cases h
  · cases h

theorem orderClaims_noticesDistinct {s t : State} (h : orderClaims s = some t) :
    NoticesDistinct t ↔ NoticesDistinct s := by
  unfold orderClaims at h
  dsimp only at h
  split at h
  · simp [← Option.some.inj h]
  · cases h

theorem grantOne_noticesDistinct {s t : State} (h : grantOne s = some t) : NoticesDistinct t ↔ NoticesDistinct s := by
  unfold grantOne at h
  split at h
  · cases h
  · split at h
    · cases h
    · dsimp only at h
      split at h <;> simp [← Option.some.inj h]

theorem settlePost_noticesDistinct {s t : State} (h : settlePost s = some t) : NoticesDistinct t ↔ NoticesDistinct s := by
  unfold settlePost beginPost at h
  split at h
  · rw [← Option.some.inj h]
    dsimp only
    split <;> simp
  · cases h

theorem settleEvent_noticesDistinct {s t : State} (h : settleEvent s = some t) :
    NoticesDistinct t ↔ NoticesDistinct s := by
  unfold settleEvent at h
  dsimp only at h
  split at h
  · split at h
    · simp [← Option.some.inj h]
    · cases h
  · cases h

theorem settleFetch_noticesDistinct {s t : State} (h : settleFetch s = some t) :
    NoticesDistinct t ↔ NoticesDistinct s := by
  unfold settleFetch at h
  split at h
  · split at h
    · simp [← Option.some.inj h]
    · cases h
  · cases h

theorem settleAdminFetch_noticesDistinct {s t : State} (h : settleAdminFetch s = some t) :
    NoticesDistinct t ↔ NoticesDistinct s := by
  unfold settleAdminFetch at h
  dsimp only at h
  split at h
  · simp [← Option.some.inj h]
  · cases h

/-- Each action that the part takes by itself keeps the notices of different subjects apart, and makes no others so. -/
theorem settleStep_noticesDistinct {s t : State} (h : settleStep s = some t) :
    NoticesDistinct t ↔ NoticesDistinct s := by
  unfold settleStep at h
  simp only [Option.orElse_eq_orElse, Option.orElse_eq_or, Option.or_eq_some_iff] at h
  rcases h with h | ⟨-, h | ⟨-, h | ⟨-, h | ⟨-, h | ⟨-, h | ⟨-, h | ⟨-, h | ⟨-, h | ⟨-, h⟩⟩⟩⟩⟩⟩⟩⟩⟩
  · exact settleOff_noticesDistinct h
  · exact settleDrained_noticesDistinct h
  · exact settleAttention_noticesDistinct h
  · exact settleMask_noticesDistinct h
  · exact orderClaims_noticesDistinct h
  · exact grantOne_noticesDistinct h
  · exact settlePost_noticesDistinct h
  · exact settleEvent_noticesDistinct h
  · exact settleFetch_noticesDistinct h
  · exact settleAdminFetch_noticesDistinct h

@[simp] theorem react_noticesDistinct (s : State) : NoticesDistinct (react s) ↔ NoticesDistinct s :=
  react_keeps (fun t => NoticesDistinct t ↔ NoticesDistinct s)
    (fun _ _ hstep kept => (settleStep_noticesDistinct hstep).trans kept) Iff.rfl

end Sys2Proof.Machine
end

section
/-! PROOF. Every command keeps the notices of different subjects apart (R192). A reset and a record written take notices out of
the queue (R142, R194), and keep the law without being equivalent to it. -/

namespace Sys2Proof.Machine

/-! ### Commands -/

/-- What a command's outcome leaves, if it goes on, has no two notices of one subject when the state it found had none. -/
def KeepsNoticesDistinct (s : State) (r : Result) : Prop := ∀ t, r = .next t → NoticesDistinct s → NoticesDistinct t

@[simp] theorem keepsNoticesDistinct_next (s t : State) :
    KeepsNoticesDistinct s (.next t) ↔ (NoticesDistinct s → NoticesDistinct t) :=
  ⟨fun h => h t rfl, fun h _ e => Host.Outcome.next.inj e ▸ h⟩

@[simp] theorem keepsNoticesDistinct_fault (s : State) (f : Fault) : KeepsNoticesDistinct s (.fault f) := by
  intro t e
  cases e

@[simp] theorem keepsNoticesDistinct_taken (s t : State) :
    KeepsNoticesDistinct s (taken t) ↔ (NoticesDistinct s → NoticesDistinct t) := by
  rw [taken, keepsNoticesDistinct_next, react_noticesDistinct]

/-! ### Resets and the register window -/

/-- A reset empties the notice queue (R142). -/
theorem resetAll_noticesDistinct (s : State) : NoticesDistinct (resetAll s) := List.nodup_nil

theorem functionReset_noticesDistinct (s : State) : NoticesDistinct (functionReset s) := List.nodup_nil

@[simp] theorem enable_noticesDistinct (s : State) : NoticesDistinct (enable s) ↔ NoticesDistinct s := by
  unfold enable createAdminRings
  split
  · split <;> simp
  · simp

@[simp] theorem writeEnable_noticesDistinct (s : State) : NoticesDistinct (writeEnable s) ↔ NoticesDistinct s := by
  unfold writeEnable
  split <;> simp

@[simp] theorem writeDisable_noticesDistinct (s : State) : NoticesDistinct (writeDisable s) ↔ NoticesDistinct s := by
  unfold writeDisable
  split <;> simp

@[simp] theorem writeAdmin_noticesDistinct (reg : AdminRegister) (value : Word) (s : State) :
    NoticesDistinct (writeAdmin reg value s) ↔ NoticesDistinct s := by
  unfold writeAdmin
  split <;> simp

@[simp] theorem takeProducer_noticesDistinct (ring : RingId) (value : Nat) (s : State) :
    NoticesDistinct (takeProducer ring value s) ↔ NoticesDistinct s := by
  unfold takeProducer
  dsimp only
  split
  · split <;> simp
  · rfl

@[simp] theorem writeProducer_noticesDistinct (ring : RingId) (value : Word) (s : State) :
    NoticesDistinct (writeProducer ring value s) ↔ NoticesDistinct s := by
  unfold writeProducer
  split <;> simp

@[simp] theorem takeConsumer_noticesDistinct (ring : RingId) (value : Nat) (s : State) :
    NoticesDistinct (takeConsumer ring value s) ↔ NoticesDistinct s := by
  unfold takeConsumer
  dsimp only
  split <;> simp

@[simp] theorem writeConsumer_noticesDistinct (ring : RingId) (value : Word) (s : State) :
    NoticesDistinct (writeConsumer ring value s) ↔ NoticesDistinct s := by
  unfold writeConsumer
  split <;> simp

@[simp] theorem takeEventConsumer_noticesDistinct (value : Nat) (s : State) :
    NoticesDistinct (takeEventConsumer value s) ↔ NoticesDistinct s := by
  unfold takeEventConsumer
  dsimp only
  split <;> simp

@[simp] theorem writeEventConsumer_noticesDistinct (value : Word) (s : State) :
    NoticesDistinct (writeEventConsumer value s) ↔ NoticesDistinct s := by
  unfold writeEventConsumer
  split <;> simp

@[simp] theorem takeCaptureConsumer_noticesDistinct (k : SlotId) (value : Nat) (s : State) :
    NoticesDistinct (takeCaptureConsumer k value s) ↔ NoticesDistinct s := by
  unfold takeCaptureConsumer
  dsimp only
  split <;> simp

@[simp] theorem writeCaptureConsumer_noticesDistinct (k : SlotId) (value : Word) (s : State) :
    NoticesDistinct (writeCaptureConsumer k value s) ↔ NoticesDistinct s := by
  unfold writeCaptureConsumer
  split <;> simp

@[simp] theorem writeIndex_noticesDistinct (k : Nat) (value : Word) (s : State) :
    NoticesDistinct (writeIndex k value s) ↔ NoticesDistinct s := by
  unfold writeIndex
  split
  · simp
  · split
    · simp
    · split
      · simp
      · split <;> simp

theorem writeControl_noticesDistinct (value : Word) {s : State} (h : NoticesDistinct s) :
    NoticesDistinct (writeControl value s) := by
  unfold writeControl
  split
  · exact functionReset_noticesDistinct s
  · split <;> simpa using h

theorem execRegisterWrite_noticesDistinct (offset : BitVec 8) (value : Word) (s : State) :
    KeepsNoticesDistinct s (execRegisterWrite offset value s) := by
  unfold execRegisterWrite
  split
  case h_1 => simpa using fun h => writeControl_noticesDistinct value h
  case h_8 => split <;> simp
  all_goals simp

theorem execMsixVectorMaskWrite_noticesDistinct (v : Vec) (masked : Bool) (s : State) :
    KeepsNoticesDistinct s (execMsixVectorMaskWrite v masked s) := by
  cases masked <;> simp [execMsixVectorMaskWrite, unmask]

/-! ### Fetches -/

@[simp] theorem takeEntry_noticesDistinct (r : RingId) (bytes : List Byte) (s : State) :
    NoticesDistinct (takeEntry r bytes s) ↔ NoticesDistinct s := by
  unfold takeEntry
  dsimp only
  split
  · simp
  · split <;> simp

@[simp] theorem fetchFails_noticesDistinct (r : RingId) (addr : Addr) (s : State) :
    NoticesDistinct (fetchFails r addr s) ↔ NoticesDistinct s := by
  simp [fetchFails]

@[simp] theorem takeCommand_noticesDistinct (bytes : List Byte) (s : State) :
    NoticesDistinct (takeCommand bytes s) ↔ NoticesDistinct s := by
  unfold takeCommand
  dsimp only
  split <;> simp

theorem execFetchReadEnd_noticesDistinct (result : ReadEnd) (s : State) :
    KeepsNoticesDistinct s (execFetchReadEnd result s) := by
  unfold execFetchReadEnd
  split
  · simp
  · cases result with
    | error addr => simp
    | data bytes => dsimp only; split <;> simp

theorem execAdminFetchReadEnd_noticesDistinct (result : ReadEnd) (s : State) :
    KeepsNoticesDistinct s (execAdminFetchReadEnd result s) := by
  unfold execAdminFetchReadEnd
  split
  · cases result with
    | error addr => simp
    | data bytes => dsimp only; split <;> simp
  · simp

/-! ### Administrative commands -/

@[simp] theorem identify_noticesDistinct (buffer : Addr) (s : State) :
    NoticesDistinct (identify buffer s) ↔ NoticesDistinct s := by
  unfold identify
  split <;> simp

@[simp] theorem setParameters_noticesDistinct (selection : Byte) (values : Params) (s : State) :
    NoticesDistinct (setParameters selection values s) ↔ NoticesDistinct s := by
  unfold setParameters
  split
  · simp
  · dsimp only
    split
    · simp
    · split <;> simp

@[simp] theorem createSq_noticesDistinct (ring cq weight size : Nat) (base : Addr) (s : State) :
    NoticesDistinct (createSq ring cq weight size base s) ↔ NoticesDistinct s := by
  unfold createSq createSqRing
  split
  · split
    · split
      · simp
      · split <;> simp
    · simp
  · simp

@[simp] theorem deleteSq_noticesDistinct (ring : Nat) (s : State) :
    NoticesDistinct (deleteSq ring s) ↔ NoticesDistinct s := by
  unfold deleteSq
  split
  · simp
  · dsimp only
    split <;> simp

@[simp] theorem createCq_noticesDistinct (ring vector count size time : Nat) (base : Addr) (s : State) :
    NoticesDistinct (createCq ring vector count size time base s) ↔ NoticesDistinct s := by
  unfold createCq
  split
  · split
    · split <;> simp
    · simp
  · simp

@[simp] theorem deleteCq_noticesDistinct (ring : Nat) (s : State) :
    NoticesDistinct (deleteCq ring s) ↔ NoticesDistinct s := by
  unfold deleteCq
  split
  · simp
  · split
    · simp
    · split <;> simp

@[simp] theorem applyEventRing_noticesDistinct (v : Vec) (count size time : Nat) (base : Addr) (s : State) :
    NoticesDistinct (applyEventRing v count size time base s) ↔ NoticesDistinct s := by
  simp [applyEventRing]

@[simp] theorem resumeEventRing_noticesDistinct (s : State) :
    NoticesDistinct (resumeEventRing s) ↔ NoticesDistinct s := by
  unfold resumeEventRing
  split <;> simp

@[simp] theorem setEventRingCommand_noticesDistinct (vector count size time : Nat) (base : Addr) (s : State) :
    NoticesDistinct (setEventRingCommand vector count size time base s) ↔ NoticesDistinct s := by
  unfold setEventRingCommand
  split
  · simp
  · split
    · split <;> simp
    · simp

@[simp] theorem loopStart_noticesDistinct (s : State) : NoticesDistinct (loopStart s) ↔ NoticesDistinct s := by
  unfold loopStart
  split
  · simp
  · split <;> simp

@[simp] theorem loopStop_noticesDistinct (s : State) : NoticesDistinct (loopStop s) ↔ NoticesDistinct s := by
  unfold loopStop
  split <;> simp

@[simp] theorem censusCommand_noticesDistinct (s : State) : NoticesDistinct (censusCommand s) ↔ NoticesDistinct s := by
  unfold censusCommand
  split <;> simp

@[simp] theorem nodeReset_noticesDistinct (node : Nat) (s : State) :
    NoticesDistinct (nodeReset node s) ↔ NoticesDistinct s := by
  unfold nodeReset
  split
  · simp
  · split
    · simp
    · split <;> simp

@[simp] theorem nodeTableRead_noticesDistinct (buffer : Addr) (s : State) :
    NoticesDistinct (nodeTableRead buffer s) ↔ NoticesDistinct s := by
  unfold nodeTableRead
  split <;> simp

@[simp] theorem bufferWritten_noticesDistinct (result : WriteEnd) (detail : Option Nat) (s : State) :
    NoticesDistinct (bufferWritten result detail s) ↔ NoticesDistinct s := by
  cases result <;> simp [bufferWritten]

@[simp] theorem loadList_noticesDistinct (id count : Nat) (s : State) :
    NoticesDistinct (loadList id count s) ↔ NoticesDistinct s := by
  unfold loadList
  split
  · simp
  · split
    · simp
    · split
      · simp
      · split <;> simp

@[simp] theorem loadFails_noticesDistinct (id : ListId) (outcome : AdminOutcome) (detail : Option Nat) (s : State) :
    NoticesDistinct (loadFails id outcome detail s) ↔ NoticesDistinct s := by
  simp [loadFails]

@[simp] theorem listRead_noticesDistinct (id : ListId) (count : Nat) (bytes : List Byte) (s : State) :
    NoticesDistinct (listRead id count bytes s) ↔ NoticesDistinct s := by
  unfold listRead
  split <;> simp [holdList]

@[simp] theorem unloadList_noticesDistinct (id : Nat) (s : State) :
    NoticesDistinct (unloadList id s) ↔ NoticesDistinct s := by
  unfold unloadList
  split
  · simp
  · split <;> simp

@[simp] theorem addEntry_noticesDistinct (e : AttentionEntry) (s : State) :
    NoticesDistinct (addEntry e s) ↔ NoticesDistinct s := by
  simp [addEntry]

@[simp] theorem addChecked_noticesDistinct (e : AttentionEntry) (s : State) :
    NoticesDistinct (addChecked e s) ↔ NoticesDistinct s := by
  unfold addChecked addWithList
  split
  · simp
  · split
    · simp
    · split
      · split <;> simp
      · simp

@[simp] theorem attentionAdd_noticesDistinct (node source kind list : Nat) (cookie : Word) (s : State) :
    NoticesDistinct (attentionAdd node source kind list cookie s) ↔ NoticesDistinct s := by
  unfold attentionAdd
  split <;> simp

@[simp] theorem armTo_noticesDistinct (target : EntryState) (node source : Nat) (s : State) :
    NoticesDistinct (armTo target node source s) ↔ NoticesDistinct s := by
  unfold armTo setArmed
  split
  · simp
  · split
    · simp
    · split
      case h_1 | h_2 => split <;> simp
      all_goals simp

@[simp] theorem removeEntry_noticesDistinct (e : AttentionEntry) (s : State) :
    NoticesDistinct (removeEntry e s) ↔ NoticesDistinct s := by
  unfold removeEntry
  dsimp only
  split <;> split <;> simp

@[simp] theorem attentionDelete_noticesDistinct (node source : Nat) (s : State) :
    NoticesDistinct (attentionDelete node source s) ↔ NoticesDistinct s := by
  unfold attentionDelete
  split
  · simp
  · split
    · simp
    · split <;> simp

@[simp] theorem slotStart_noticesDistinct (slot list policy vector period offset size : Nat) (base : Addr) (s : State) :
    NoticesDistinct (slotStart slot list policy vector period offset size base s) ↔ NoticesDistinct s := by
  unfold slotStart startIdleSlot
  split
  · split
    · split
      · split
        case h_3 => split <;> simp
        all_goals simp
      · simp
    · simp
  · simp

@[simp] theorem slotStop_noticesDistinct (slot : Nat) (s : State) :
    NoticesDistinct (slotStop slot s) ↔ NoticesDistinct s := by
  unfold slotStop
  split
  · simp
  · split
    · simp
    · dsimp only
      split <;> simp

@[simp] theorem slotResume_noticesDistinct (slot : Nat) (s : State) :
    NoticesDistinct (slotResume slot s) ↔ NoticesDistinct s := by
  unfold slotResume
  split
  · simp
  · split <;> simp

@[simp] theorem abortJob_noticesDistinct (ring jobId : Nat) (s : State) :
    NoticesDistinct (abortJob ring jobId s) ↔ NoticesDistinct s := by
  unfold abortJob
  split
  · simp
  · dsimp only
    split <;> simp

theorem execListLoadReadEnd_noticesDistinct (result : ReadEnd) (s : State) :
    KeepsNoticesDistinct s (execListLoadReadEnd result s) := by
  unfold execListLoadReadEnd
  split
  · split
    · split <;> simp
    all_goals simp
  · simp

/-! ### The ends of a context's host-memory accesses -/

@[simp] theorem inlineEnds_noticesDistinct (c : CtxId) (result : ReadEnd) (s : State) :
    NoticesDistinct (inlineEnds c result s) ↔ NoticesDistinct s := by
  unfold inlineEnds
  dsimp only
  split
  · simp
  · split <;> simp

@[simp] theorem stagedClaim_noticesDistinct (c : CtxId) (s : State) :
    NoticesDistinct (stagedClaim c s) ↔ NoticesDistinct s := by
  unfold stagedClaim
  split
  · rfl
  · rename_i p _
    split
    · rfl
    · rename_i n _
      have begun := claimOperation_noticesDistinct c p n s
      split
      · rename_i t ht
        rwa [ht] at begun
      · rename_i e t ht
        rw [ht] at begun
        simpa using begun

@[simp] theorem stagingEnds_noticesDistinct (c : CtxId) (result : ReadEnd) (s : State) :
    NoticesDistinct (stagingEnds c result s) ↔ NoticesDistinct s := by
  cases result <;> simp [stagingEnds]

@[simp] theorem inWriteEnds_noticesDistinct (c : CtxId) (w : InBufferWrite) (result : WriteEnd) (s : State) :
    NoticesDistinct (inWriteEnds c w result s) ↔ NoticesDistinct s := by
  cases result <;> simp [inWriteEnds]

theorem execInlineListReadEnd_noticesDistinct (c : CtxId) (result : ReadEnd) (s : State) :
    KeepsNoticesDistinct s (execInlineListReadEnd c result s) := by
  unfold execInlineListReadEnd
  split
  · split
    · split <;> simp
    · simp
  · simp

theorem execStagingReadEnd_noticesDistinct (c : CtxId) (result : ReadEnd) (s : State) :
    KeepsNoticesDistinct s (execStagingReadEnd c result s) := by
  unfold execStagingReadEnd
  split
  · split
    · split <;> simp
    · simp
  · simp

theorem execInBufferWriteEnd_noticesDistinct (c : CtxId) (result : WriteEnd) (s : State) :
    KeepsNoticesDistinct s (execInBufferWriteEnd c result s) := by
  unfold execInBufferWriteEnd
  split <;> simp

/-! ### The wire -/

@[simp] theorem notSent_noticesDistinct (f : Frame) (s : State) :
    NoticesDistinct (notSent f s) ↔ NoticesDistinct s := by
  unfold notSent
  split
  · rfl
  · split
    · rfl
    · dsimp only
      split <;> simp

@[simp] theorem sendNext_noticesDistinct (frames : List Frame) (s : State) :
    NoticesDistinct (sendNext frames s) ↔ NoticesDistinct s := by
  induction frames generalizing s with
  | nil => rfl
  | cons f rest ih =>
    unfold sendNext
    split
    · rfl
    · rw [ih, notSent_noticesDistinct]

@[simp] theorem transmitEnds_noticesDistinct (s : State) : NoticesDistinct (transmitEnds s) ↔ NoticesDistinct s := by
  simp [transmitEnds]

@[simp] theorem ownFrameClassified_noticesDistinct (s : State) :
    NoticesDistinct (ownFrameClassified s) ↔ NoticesDistinct s := by
  unfold ownFrameClassified
  split <;> simp

@[simp] theorem ownFrameReturned_noticesDistinct (f : Frame) (s : State) :
    NoticesDistinct (ownFrameReturned f s) ↔ NoticesDistinct s := by
  unfold ownFrameReturned
  split <;> simp

@[simp] theorem dropTransit_noticesDistinct (r : TransitRecord) (s : State) :
    NoticesDistinct (dropTransit r s) ↔ NoticesDistinct s := Iff.rfl

@[simp] theorem classifyCorrupt_noticesDistinct (r : TransitRecord) (s : State) :
    NoticesDistinct (classifyCorrupt r s) ↔ NoticesDistinct s := by
  unfold classifyCorrupt
  split
  · simp
  · split <;> simp

@[simp] theorem classifyGood_noticesDistinct (r : TransitRecord) (f : Frame) (s : State) :
    NoticesDistinct (classifyGood r f s) ↔ NoticesDistinct s := by
  unfold classifyGood
  split
  · simp
  · split <;> simp

@[simp] theorem examineNode_noticesDistinct (f : Frame) (s : State) (n : NodeId) :
    NoticesDistinct (examineNode f s n) ↔ NoticesDistinct s := by
  unfold examineNode
  dsimp only
  split <;> split <;> simp

@[simp] theorem examineVectors_noticesDistinct (f : Frame) (s : State) :
    NoticesDistinct (examineVectors f s) ↔ NoticesDistinct s :=
  foldl_noticesDistinct (examineNode_noticesDistinct f) _ s

@[simp] theorem goodFrame_noticesDistinct (r : TransitRecord) (f : Frame) (s : State) :
    NoticesDistinct (goodFrame r f s) ↔ NoticesDistinct s := by
  unfold goodFrame
  dsimp only
  split <;> simp

@[simp] theorem classifyLost_noticesDistinct (t : Tag) (s : State) :
    NoticesDistinct (classifyLost t s) ↔ NoticesDistinct s := by
  unfold classifyLost
  split
  · rfl
  · split
    · split <;> simp
    · simp

@[simp] theorem frameLost_noticesDistinct (r : TransitRecord) (s : State) :
    NoticesDistinct (frameLost r s) ↔ NoticesDistinct s := by
  unfold frameLost
  dsimp only
  split <;> simp

@[simp] theorem contextClaimsAgain_noticesDistinct (c : CtxId) (op : Operation) (s : State) :
    NoticesDistinct (contextClaimsAgain c op s) ↔ NoticesDistinct s := by
  unfold contextClaimsAgain
  dsimp only
  split
  · simp
  · split <;> simp

@[simp] theorem serviceClaimsAgain_noticesDistinct (op : Operation) (s : State) :
    NoticesDistinct (serviceClaimsAgain op s) ↔ NoticesDistinct s := by
  unfold serviceClaimsAgain
  split <;> simp

@[simp] theorem backoffEnds_noticesDistinct (op : Operation) (s : State) :
    NoticesDistinct (backoffEnds op s) ↔ NoticesDistinct s := by
  unfold backoffEnds
  dsimp only
  split <;> simp

theorem execFrameReturn_noticesDistinct (bytes : List Byte) (s : State) :
    KeepsNoticesDistinct s (execFrameReturn bytes s) := by
  unfold execFrameReturn
  split
  · split <;> simp
  · simp
  · split <;> simp

/-! ### Timers -/

@[simp] theorem deferExpires_noticesDistinct (d : DeferId) (c : CtxId) (s : State) :
    NoticesDistinct (deferExpires d c s) ↔ NoticesDistinct s := by
  simp [deferExpires]

@[simp] theorem trainingFails_noticesDistinct (s : State) : NoticesDistinct (trainingFails s) ↔ NoticesDistinct s := by
  simp [trainingFails]

@[simp] theorem nextTry_noticesDistinct (c : CtxId) (s : State) :
    NoticesDistinct (nextTry c s) ↔ NoticesDistinct s := by
  unfold nextTry
  split <;> simp

@[simp] theorem delayEnds_noticesDistinct (c : CtxId) (s : State) :
    NoticesDistinct (delayEnds c s) ↔ NoticesDistinct s := by
  simp [delayEnds]

@[simp] theorem missPeriod_noticesDistinct (k : SlotId) (s : State) :
    NoticesDistinct (missPeriod k s) ↔ NoticesDistinct s := Iff.rfl

@[simp] theorem expiryByState_noticesDistinct (k : SlotId) (s : State) :
    NoticesDistinct (expiryByState k s) ↔ NoticesDistinct s := by
  unfold expiryByState
  split
  · split
    · unfold activeExpiry
      split <;> simp [startSlotRun]
    · simp [waitForLoop]
  all_goals simp

@[simp] theorem periodExpires_noticesDistinct (k : SlotId) (s : State) :
    NoticesDistinct (periodExpires k s) ↔ NoticesDistinct s := by
  unfold periodExpires sequenceExhausted
  dsimp only
  split <;> simp

/-! ### Records written (R131, R136, R194) -/

/-- The notice whose record was written leaves the queue, or moves to its tail (R194). -/
theorem settleNotice_noticesDistinct {s : State} (h : NoticesDistinct s) : NoticesDistinct (settleNotice s) := by
  unfold settleNotice
  split
  · exact h
  · rename_i n rest hq
    have apart : n.subject ∉ rest.map Notice.subject ∧ (rest.map Notice.subject).Nodup := by
      simpa only [NoticesDistinct, hq, List.map_cons, List.nodup_cons] using h
    have left : NoticesDistinct (s.setNotices rest) := apart.2
    split
    · have moved : ((n :: rest).map Notice.subject).Perm
          ((rest ++ [{ n with heldChange := false }]).map Notice.subject) := by
        simpa using (List.perm_append_singleton n.subject (rest.map Notice.subject)).symm
      exact moved.nodup_iff.mp (hq ▸ h)
    · split
      · simpa using left
      · exact left

/-- The notice whose record failed keeps its place (R194). -/
@[simp] theorem keepNotice_noticesDistinct (s : State) : NoticesDistinct (keepNotice s) ↔ NoticesDistinct s := by
  unfold keepNotice
  split
  · rfl
  · rename_i hq
    simp [NoticesDistinct, hq]

@[simp] theorem messageIfDue_noticesDistinct (v : Vec) (m : Moderation) (s : State) :
    NoticesDistinct (messageIfDue v m s) ↔ NoticesDistinct s := by
  unfold messageIfDue
  split <;> simp

@[simp] theorem timerMessage_noticesDistinct (v : Vec) (m : Moderation) (s : State) :
    NoticesDistinct (timerMessage v m s) ↔ NoticesDistinct s := by
  unfold timerMessage
  split <;> simp

theorem eventWritten_noticesDistinct {s : State} (h : NoticesDistinct s) : NoticesDistinct (eventWritten s) := by
  unfold eventWritten
  rw [resumeEventRing_noticesDistinct]
  apply settleNotice_noticesDistinct
  simpa using h

@[simp] theorem eventFails_noticesDistinct (s : State) : NoticesDistinct (eventFails s) ↔ NoticesDistinct s := by
  simp [eventFails]

@[simp] theorem completionWritten_noticesDistinct (k : RingId) (s : State) :
    NoticesDistinct (completionWritten k s) ↔ NoticesDistinct s := by
  unfold completionWritten
  dsimp only
  split <;> simp

@[simp] theorem completionFails_noticesDistinct (k : RingId) (addr : Addr) (s : State) :
    NoticesDistinct (completionFails k addr s) ↔ NoticesDistinct s := by
  unfold completionFails
  split <;> simp

@[simp] theorem snapshotWritten_noticesDistinct (k : SlotId) (result : WriteEnd) (s : State) :
    NoticesDistinct (snapshotWritten k result s) ↔ NoticesDistinct s := by
  cases result <;> simp [snapshotWritten]

theorem execModerationTimerExpiry_noticesDistinct (ring : ModeratedRing) (s : State) :
    KeepsNoticesDistinct s (execModerationTimerExpiry ring s) := by
  cases ring with
  | completion k =>
    simp only [execModerationTimerExpiry, compTimer]
    split <;> simp
  | event =>
    simp only [execModerationTimerExpiry, eventTimer]
    split <;> simp

/-! ### Every command -/

/-- A command that finds what it needs keeps the law by the lemma of what it does; one that does not changes nothing. -/
theorem exec_noticesDistinct (i : Instr) (s : State) : KeepsNoticesDistinct s (exec i s) := by
  cases i with
  | powerOn => exact (keepsNoticesDistinct_next _ _).mpr fun _ => resetAll_noticesDistinct s
  | pcieReset => exact (keepsNoticesDistinct_next _ _).mpr fun _ => resetAll_noticesDistinct s
  | functionReset => exact (keepsNoticesDistinct_next _ _).mpr fun _ => functionReset_noticesDistinct s
  | initialisationEnd => simp [exec, execInitialisationEnd]
  | enableSet => simp [exec, execEnableSet]
  | enableCleared => simp [exec, execEnableCleared]
  | adminRegisterWrite reg value => simp [exec, execAdminRegisterWrite]
  | registerWrite offset value => exact execRegisterWrite_noticesDistinct offset value s
  | producerIndexWrite ring value => simp [exec, execProducerIndexWrite]
  | completionConsumerIndexWrite ring value => simp [exec, execCompletionConsumerIndexWrite]
  | eventConsumerIndexWrite value => simp [exec, execEventConsumerIndexWrite]
  | captureConsumerIndexWrite slot value => simp [exec, execCaptureConsumerIndexWrite]
  | msixVectorMaskWrite v masked => exact execMsixVectorMaskWrite_noticesDistinct v masked s
  | fetchReadEnd result => exact execFetchReadEnd_noticesDistinct result s
  | adminFetchReadEnd result => exact execAdminFetchReadEnd_noticesDistinct result s
  | identify => simp only [exec, execIdentify]; split <;> simp
  | setParameters => simp only [exec, execSetParameters]; split <;> simp
  | createSq => simp only [exec, execCreateSq]; split <;> simp
  | deleteSq => simp only [exec, execDeleteSq]; split <;> simp
  | createCq => simp only [exec, execCreateCq]; split <;> simp
  | deleteCq => simp only [exec, execDeleteCq]; split <;> simp
  | setEventRing => simp only [exec, execSetEventRing]; split <;> simp
  | loopStart => simp only [exec, execLoopStart]; split <;> simp
  | loopStop => simp only [exec, execLoopStop]; split <;> simp
  | census => simp only [exec, execCensus]; split <;> simp
  | nodeReset => simp only [exec, execNodeReset]; split <;> simp
  | nodeTableRead => simp only [exec, execNodeTableRead]; split <;> simp
  | loadList => simp only [exec, execLoadList]; split <;> simp
  | unloadList => simp only [exec, execUnloadList]; split <;> simp
  | attentionAdd => simp only [exec, execAttentionAdd]; split <;> simp
  | attentionArm => simp only [exec, execAttentionArm]; split <;> simp
  | attentionDisarm => simp only [exec, execAttentionDisarm]; split <;> simp
  | attentionDelete => simp only [exec, execAttentionDelete]; split <;> simp
  | slotStart => simp only [exec, execSlotStart]; split <;> simp
  | slotStop => simp only [exec, execSlotStop]; split <;> simp
  | slotResume => simp only [exec, execSlotResume]; split <;> simp
  | abortJob => simp only [exec, execAbortJob]; split <;> simp
  | adminBufferWriteEnd result => simp only [exec, execAdminBufferWriteEnd]; split <;> simp
  | listLoadReadEnd result => exact execListLoadReadEnd_noticesDistinct result s
  | inlineListReadEnd c result => exact execInlineListReadEnd_noticesDistinct c result s
  | stagingReadEnd c result => exact execStagingReadEnd_noticesDistinct c result s
  | inBufferWriteEnd c result => exact execInBufferWriteEnd_noticesDistinct c result s
  | frameTransmitEnd => simp only [exec, execFrameTransmitEnd]; split <;> simp
  | frameReturn bytes => exact execFrameReturn_noticesDistinct bytes s
  | returnTimeout sender => simp only [exec, execReturnTimeout]; split <;> simp
  | busyBackoffExpiry owner => simp only [exec, execBusyBackoffExpiry]; split <;> simp
  | signalLoss => simp only [exec, execSignalLoss]; split <;> simp
  | trainingTimeout => simp only [exec, execTrainingTimeout]; split <;> simp
  | retrainTimerExpiry => simp only [exec, execRetrainTimerExpiry]; split <;> simp
  | deferDeadlineExpiry d => simp only [exec, execDeferDeadlineExpiry]; split <;> simp
  | jobDeadlineExpiry c => simp only [exec, execJobDeadlineExpiry]; split <;> simp
  | awaitIntervalExpiry c => simp only [exec, execAwaitIntervalExpiry]; split <;> simp
  | delayExpiry c => simp only [exec, execDelayExpiry]; split <;> simp
  | periodExpiry k => simp only [exec, execPeriodExpiry]; split <;> simp
  | eventRecordWritten =>
    simp only [exec, execEventRecordWritten]
    split
    · simpa using eventWritten_noticesDistinct
    · simp
  | eventWriteError => simp only [exec, execEventWriteError]; split <;> simp
  | completionRecordWritten k => simp only [exec, execCompletionRecordWritten]; split <;> simp
  | completionWriteError k addr => simp only [exec, execCompletionWriteError]; split <;> simp
  | moderationTimerExpiry ring => exact execModerationTimerExpiry_noticesDistinct ring s
  | snapshotWriteEnd k result => simp only [exec, execSnapshotWriteEnd]; split <;> simp

/-- Settles O4: the timebase alone counts when no command waits, and a command that waits keeps the law by
`exec_noticesDistinct`. -/
theorem stepKeepsNoticesDistinct : Obligations.StepKeepsNoticesDistinct := by
  unfold Obligations.StepKeepsNoticesDistinct step
  intro s t distinct hstep
  split at hstep
  · rw [← Host.Outcome.next.inj hstep]
    unfold tick
    split <;> simpa using distinct
  · exact exec_noticesDistinct _ _ t hstep distinct

end Sys2Proof.Machine
end

section
/-! PROOF. The CRC-16, and the bytes of a loop frame field by field, read back as the frame they hold (R201). -/

namespace Sys2Proof.Machine

/-! ### The CRC-16 (R201) -/

/-- One bit fed into the CRC, as R201 gives the shift: the bit that leaves decides, with the bit fed in, on the polynomial. -/
def crcShift (crc : BitVec 16) (bit : Bool) : BitVec 16 :=
  if crc.getLsbD 15 = bit then crc <<< 1 else (crc <<< 1) ^^^ 0x1021

/-- The model's shift over numbers is the shift over 16-bit words. -/
theorem ofNat_crcBit (c : Nat) (bit : Bool) : BitVec.ofNat 16 (crcBit c bit) = crcShift (BitVec.ofNat 16 c) bit := by
  have shifted : BitVec.ofNat 16 (2 * c % 65536) = BitVec.ofNat 16 c <<< 1 := by
    apply BitVec.eq_of_toNat_eq
    simp [Nat.shiftLeft_eq]
    omega
  have leaves : (BitVec.ofNat 16 c).getLsbD 15 = c.testBit 15 := by
    rw [BitVec.getLsbD_ofNat]
    rfl
  unfold crcBit crcShift
  rw [leaves]
  by_cases h : c.testBit 15 = bit
  · simp [h, shifted]
  · simp [h, BitVec.ofNat_xor, shifted]

theorem crcFrom_append (c : Nat) (bytes : List Byte) (b : Byte) :
    crcFrom c (bytes ++ [b]) = crcByte (crcFrom c bytes) b := by
  induction bytes generalizing c with
  | nil => simp [crcFrom]
  | cons x rest ih => simp [crcFrom, ih]

/-- One byte more is eight shifts, its most significant bit first. -/
theorem crc16_append (bytes : List Byte) (b : Byte) :
    crc16 (bytes ++ [b]) =
      [7, 6, 5, 4, 3, 2, 1, 0].foldl (fun crc i => crcShift crc (b.getLsbD i)) (crc16 bytes) := by
  rw [crc16, crcFrom_append, crcByte, crc16]
  exact (List.foldl_hom (BitVec.ofNat 16) fun c i => (ofNat_crcBit c (b.getLsbD i)).symm).symm

/-! ### Codes read back (R201) -/

theorem FrameKind.code_eq (k : FrameKind) : k.code = frameKindByte k := by cases k <;> rfl
theorem FrameKind.code_lt (k : FrameKind) : k.code < 256 := by cases k <;> decide
theorem ReplyStatus.code_lt (st : ReplyStatus) : st.code < 256 := by cases st <;> decide

theorem opCode_eq (op : Option CommandOp) : opCode op = operationByte op := by
  cases op with
  | none => rfl
  | some op => cases op <;> rfl

theorem opCode_lt (op : Option CommandOp) : opCode op < 256 := by
  cases op with
  | none => decide
  | some op => cases op <;> decide

@[simp] theorem frameKindOf_code (k : FrameKind) : frameKindOf k.code = some k := by cases k <;> rfl

@[simp] theorem opOf_opCode (op : Option CommandOp) : opOf (opCode op) = op := by
  cases op with
  | none => rfl
  | some op => cases op <;> rfl

theorem replyStatusOf_code {st : ReplyStatus} (h : st ≠ .invalid) : replyStatusOf st.code = st := by
  cases st with
  | invalid => exact absurd rfl h
  | untouched | done | deferred | busy | refused | unknown => rfl

/-- The number in a frame's byte 1. -/
def flagNumber (f : Frame) : Nat := f.tag.val + 8 * f.retry.toNat + 16 * f.seq.toNat + 32 * f.mayDefer.toNat

/-- The tag and the three flags have bits of their own in byte 1. -/
theorem flagNumber_bits (f : Frame) :
    flagNumber f < 256 ∧ flagNumber f % 8 = f.tag.val ∧ (flagNumber f).testBit 3 = f.retry ∧
      (flagNumber f).testBit 4 = f.seq ∧ (flagNumber f).testBit 5 = f.mayDefer := by
  have bits : ∀ (t : Tag) (r q m : Bool), let n := t.val + 8 * r.toNat + 16 * q.toNat + 32 * m.toNat
      n < 256 ∧ n % 8 = t.val ∧ n.testBit 3 = r ∧ n.testBit 4 = q ∧ n.testBit 5 = m := by decide
  exact bits f.tag f.retry f.seq f.mayDefer

/-! ### Words and their bytes (R197) -/

theorem bytesOf_length (words : List Word) : (bytesOf words).length = 4 * words.length :=
  length_flatMap_records _ (fun w : Word => leBytes_length 4 w.toNat) words

/-- Words are read back from their bytes. -/
theorem wordsOf_bytesOf (words : List Word) : wordsOf (bytesOf words) = words := by
  induction words with
  | nil => rfl
  | cons w rest ih =>
    have word : BitVec.ofNat 32 (leNat (leBytes 4 w.toNat)) = w := by
      rw [leNat_leBytes, Nat.mod_eq_of_lt (b := 256 ^ 4) w.isLt, BitVec.ofNat_toNat, BitVec.setWidth_eq]
    show BitVec.ofNat 32 (leNat (leBytes 4 w.toNat)) :: wordsOf (bytesOf rest) = w :: rest
    rw [word, ih]

/-- A word's bytes stand at four times its place, whatever follows the words. -/
theorem fieldAt_bytesOf {words : List Word} {i : Nat} {w : Word} (h : words[i]? = some w) (rest : List Byte) :
    fieldAt (bytesOf words ++ rest) (4 * i) 4 = w.toNat := by
  obtain ⟨hi, rfl⟩ := List.getElem?_eq_some_iff.mp h
  have from_word := drop_flatMap_records (fun w : Word => leBytes 4 w.toNat) (fun w => leBytes_length 4 w.toNat) words i hi
  have within : 4 * i + 4 ≤ (bytesOf words).length := by rw [bytesOf_length]; omega
  calc fieldAt (bytesOf words ++ rest) (4 * i) 4
      = fieldAt (bytesOf words) (4 * i) 4 := fieldAt_append_left rest within
    _ = fieldAt (leBytes 4 words[i].toNat ++ (words.drop (i + 1)).flatMap fun w => leBytes 4 w.toNat) 0 4 := by
      rw [fieldAt, bytesOf, from_word]
      rfl
    _ = words[i].toNat % 256 ^ 4 := fieldAt_leBytes_append 4 _ _
    _ = words[i].toNat := Nat.mod_eq_of_lt words[i].isLt

/-! ### The fields of a frame (R201) -/

/-- The bytes of a frame up to its data words. -/
def frameHead (f : Frame) : List Byte :=
  leBytes 1 f.kind.code ++ leBytes 1 (flagNumber f) ++ leBytes 1 f.addr ++ leBytes 1 f.point ++ leBytes 1 (opCode f.op)
    ++ leBytes 1 f.count ++ leBytes 1 f.deferId ++ leBytes 1 f.data.length
    ++ leBytes 4 f.attention.toNat ++ leBytes 4 f.collect.toNat
    ++ leBytes 1 f.status.code ++ leBytes 1 f.valid.toNat ++ leBytes 1 f.delivered ++ leBytes 1 f.replyId

theorem frameBody_eq (f : Frame) : frameBody f = frameHead f ++ bytesOf f.data := rfl

theorem frameHead_length (f : Frame) : (frameHead f).length = 20 := by simp [frameHead]

theorem frameBody_length (f : Frame) : (frameBody f).length = 20 + 4 * f.data.length := by
  rw [frameBody_eq, List.length_append, frameHead_length, bytesOf_length]

theorem frameBytes_length (f : Frame) : (frameBytes f).length = 22 + 4 * f.data.length := by
  rw [frameBytes, List.length_append, frameBody_length, leBytes_length]
  omega

/-- What the fields of R201 before the data words read, in bytes that hold a frame. -/
structure HeadFields (f : Frame) (bytes : List Byte) : Prop where
  kind : littleEndian bytes 0 1 = f.kind.code
  flags : littleEndian bytes 1 1 = flagNumber f
  addr : littleEndian bytes 2 1 = f.addr
  point : littleEndian bytes 3 1 = f.point
  op : littleEndian bytes 4 1 = opCode f.op
  count : littleEndian bytes 5 1 = f.count
  deferId : littleEndian bytes 6 1 = f.deferId
  words : littleEndian bytes 7 1 = f.data.length
  attention : littleEndian bytes 8 4 = f.attention.toNat
  collect : littleEndian bytes 12 4 = f.collect.toNat
  status : littleEndian bytes 16 1 = f.status.code
  valid : littleEndian bytes 17 1 = f.valid.toNat
  delivered : littleEndian bytes 18 1 = f.delivered
  replyId : littleEndian bytes 19 1 = f.replyId

/-- Each field of the head is read by skipping those that stand before it. -/
theorem headFields_frameBytes {f : Frame} (fits : FrameFits f) : HeadFields f (frameBytes f) := by
  obtain ⟨addr, point, count, deferId, delivered, replyId, most⟩ := fits
  have words : f.data.length < 256 := Nat.lt_of_le_of_lt most (by decide)
  have flags := (flagNumber_bits f).1
  have valid : f.valid.toNat < 256 := Nat.lt_trans f.valid.toNat_lt (by decide)
  have attention : f.attention.toNat < 4294967296 := f.attention.isLt
  have collect : f.collect.toNat < 4294967296 := f.collect.isLt
  constructor
  all_goals
    rw [littleEndian_eq, frameBytes, frameBody_eq]
    simp only [frameHead, List.append_assoc]
    simp [f.kind.code_lt, flags, addr, point, opCode_lt, count, deferId, words, attention, collect, f.status.code_lt, valid,
      delivered, replyId]

/-- The bytes behind the head are those of the data words and the CRC. -/
theorem fieldAt_frameBytes_data (f : Frame) (i n : Nat) :
    fieldAt (frameBytes f) (20 + i) n = fieldAt (bytesOf f.data ++ leBytes 2 (crc16 (frameBody f)).toNat) i n := by
  rw [frameBytes, frameBody_eq, List.append_assoc, fieldAt_append_right _ _ (by rw [frameHead_length]; omega),
    frameHead_length, Nat.add_sub_cancel_left]

theorem frameBytes_take (f : Frame) : (frameBytes f).take (20 + 4 * f.data.length) = frameBody f := by
  rw [frameBytes, ← frameBody_length, List.take_left']
  rfl

/-- The last two bytes of a frame spell the CRC of those before them. -/
theorem littleEndian_frameBytes_crc (f : Frame) :
    littleEndian (frameBytes f) (20 + 4 * f.data.length) 2 = (crc16 (frameBody f)).toNat := by
  rw [littleEndian_eq, fieldAt_frameBytes_data, fieldAt_append_right _ _ (Nat.le_of_eq (bytesOf_length f.data)),
    bytesOf_length, Nat.sub_self, fieldAt_leBytes]
  exact Nat.mod_eq_of_lt (crc16 (frameBody f)).isLt

/-! ### A frame read back (R201) -/

theorem frameIntact_frameBytes {f : Frame} (fields : HeadFields f (frameBytes f)) : frameIntact (frameBytes f) = true := by
  have before : (frameBytes f).length - 2 = 20 + 4 * f.data.length := by rw [frameBytes_length]; omega
  have crc : leNat ((frameBytes f).drop (20 + 4 * f.data.length)) = (crc16 (frameBody f)).toNat := by
    rw [← littleEndian_frameBytes_crc, littleEndian_eq, fieldAt, List.take_of_length_le]
    rw [List.length_drop, frameBytes_length]
    omega
  unfold frameIntact
  rw [before, frameBytes_take, crc, byteAt_eq, fields.words, frameBytes_length]
  simp

/-- A bit of the byte at an offset is that bit of the number it spells. -/
theorem getD_getLsbD_eq (b : List Byte) (i j : Nat) : (b.getD i 0).getLsbD j = (littleEndian b i 1).testBit j := by
  rw [← byteAt_eq, byteAt, BitVec.testBit_toNat]

theorem readFrame_frameBytes {f : Frame} (fields : HeadFields f (frameBytes f)) (valid : f.status ≠ .invalid) :
    readFrame f.kind (frameBytes f) = f := by
  obtain ⟨-, tag, retry, seq, mayDefer⟩ := flagNumber_bits f
  have data : ((frameBytes f).drop 20).take (4 * f.data.length) = bytesOf f.data := by
    rw [frameBytes, frameBody_eq, List.append_assoc, List.drop_left' (frameHead_length f),
      List.take_left' (bytesOf_length f.data)]
  have validBit : f.valid.toNat.testBit 0 = f.valid := by cases f.valid <;> rfl
  simp only [readFrame, getD_getLsbD_eq, byteAt_eq, ← littleEndian_eq, fields.flags, fields.addr, fields.point, fields.op,
    fields.count, fields.deferId, fields.words, fields.attention, fields.collect, fields.status, fields.valid, fields.delivered,
    fields.replyId, tag, retry, seq, mayDefer, validBit, data, wordsOf_bytesOf, opOf_opCode, replyStatusOf_code valid,
    BitVec.ofNat_toNat, BitVec.setWidth_eq]

/-- A frame that the part builds is read back from its own bytes. -/
theorem parseFrame_frameBytes {f : Frame} (fields : HeadFields f (frameBytes f)) (valid : f.status ≠ .invalid) :
    parseFrame (frameBytes f) = .frame f := by
  rw [parseFrame, if_pos (frameIntact_frameBytes fields), byteAt_eq, fields.kind, frameKindOf_code]
  exact congrArg Arrival.frame (readFrame_frameBytes fields valid)

/-- Settles O39: the CRC by `crc16_append`, each field of the head by the fields that stand before it, and the frame read back
field by field. -/
theorem frameBytesReadBack : Obligations.FrameBytesReadBack := by
  unfold Obligations.FrameBytesReadBack
  refine ⟨⟨rfl, crc16_append⟩, fun f fits valid => ?_⟩
  have fields := headFields_frameBytes fits
  obtain ⟨-, tag, retry, seq, mayDefer⟩ := flagNumber_bits f
  have status {st : ReplyStatus} (h : f.status = st) : littleEndian (frameBytes f) 16 1 = st.code := h ▸ fields.status
  have validBit : (littleEndian (frameBytes f) 17 1).testBit 0 = f.valid := by
    rw [fields.valid]
    cases f.valid <;> rfl
  have crc : littleEndian (frameBytes f) (20 + 4 * f.data.length) 2 =
      (crc16 ((frameBytes f).take (20 + 4 * f.data.length))).toNat := by
    rw [frameBytes_take, littleEndian_frameBytes_crc]
  rw [← fields.flags] at tag retry seq mayDefer
  refine ⟨frameBytes_length f, parseFrame_frameBytes fields valid, fields.kind.trans f.kind.code_eq, tag, retry, seq, mayDefer,
    fields.addr, fields.point, fields.op.trans (opCode_eq f.op), fields.count, fields.deferId, fields.words, fields.attention,
    fields.collect, status, status, status, status, status, status, validBit, fields.delivered, fields.replyId,
    fun i w hw => ?_, crc⟩
  rw [littleEndian_eq, fieldAt_frameBytes_data, fieldAt_bytesOf hw]

end Sys2Proof.Machine
end

section
/-! SUPPORT. What a command does to the queue of those behind it: nothing. The part's own reactions leave the whole base alone
(Laws/Base.lean), so the queue is read through the base here: an operation that changes no register, parameter, instant or
message keeps the base, one that does keeps the base's queue. One lemma for each operation that only commands make. -/

namespace Sys2Proof.Machine

/-! ### Updates of the base -/

@[simp] theorem State.setRegs_base_pending (s : State) (x : Regs) : (s.setRegs x).base.pending = s.base.pending := rfl
@[simp] theorem State.setParams_base_pending (s : State) (x : Params) : (s.setParams x).base.pending = s.base.pending := rfl
@[simp] theorem State.setTimebase_base_pending (s : State) (x : Instant) :
    (s.setTimebase x).base.pending = s.base.pending := rfl
@[simp] theorem State.setHost_base_pending (s : State) (x : HostPort) : (s.setHost x).base.pending = s.base.pending := rfl

@[simp] theorem sendMessage_base_pending (v : Vec) (s : State) : (sendMessage v s).base.pending = s.base.pending := by
  obtain ⟨host, h⟩ := sendMessage_eq v s
  simp [h]

@[simp] theorem reachInstant_base_pending (due : Instant) (s : State) :
    (reachInstant due s).base.pending = s.base.pending := by
  obtain ⟨instant, h⟩ := reachInstant_eq due s
  simp [h]

/-! ### Resets and the register window -/

@[simp] theorem resetAll_base_pending (s : State) : (resetAll s).base.pending = s.base.pending := rfl
@[simp] theorem functionReset_base_pending (s : State) : (functionReset s).base.pending = s.base.pending := rfl

@[simp] theorem enable_base_pending (s : State) : (enable s).base.pending = s.base.pending := by
  unfold enable createAdminRings
  split
  · split <;> simp
  · simp

@[simp] theorem writeEnable_base_pending (s : State) : (writeEnable s).base.pending = s.base.pending := by
  unfold writeEnable
  split <;> simp

@[simp] theorem writeDisable_base_pending (s : State) : (writeDisable s).base.pending = s.base.pending := by
  unfold writeDisable
  split <;> simp

@[simp] theorem writeAdmin_base_pending (reg : AdminRegister) (value : Word) (s : State) :
    (writeAdmin reg value s).base.pending = s.base.pending := by
  unfold writeAdmin
  split <;> simp

@[simp] theorem takeProducer_base (ring : RingId) (value : Nat) (s : State) : (takeProducer ring value s).base = s.base := by
  unfold takeProducer
  dsimp only
  split
  · split <;> simp
  · rfl

@[simp] theorem writeProducer_base (ring : RingId) (value : Word) (s : State) :
    (writeProducer ring value s).base = s.base := by
  unfold writeProducer
  split <;> simp

@[simp] theorem takeConsumer_base (ring : RingId) (value : Nat) (s : State) : (takeConsumer ring value s).base = s.base := by
  unfold takeConsumer
  dsimp only
  split <;> simp

@[simp] theorem writeConsumer_base (ring : RingId) (value : Word) (s : State) :
    (writeConsumer ring value s).base = s.base := by
  unfold writeConsumer
  split <;> simp

@[simp] theorem takeEventConsumer_base (value : Nat) (s : State) : (takeEventConsumer value s).base = s.base := by
  unfold takeEventConsumer
  dsimp only
  split <;> simp

@[simp] theorem writeEventConsumer_base (value : Word) (s : State) : (writeEventConsumer value s).base = s.base := by
  unfold writeEventConsumer
  split <;> simp

@[simp] theorem takeCaptureConsumer_base (k : SlotId) (value : Nat) (s : State) :
    (takeCaptureConsumer k value s).base = s.base := by
  unfold takeCaptureConsumer
  dsimp only
  split <;> simp

@[simp] theorem writeCaptureConsumer_base (k : SlotId) (value : Word) (s : State) :
    (writeCaptureConsumer k value s).base = s.base := by
  unfold writeCaptureConsumer
  split <;> simp

@[simp] theorem writeIndex_base (k : Nat) (value : Word) (s : State) : (writeIndex k value s).base = s.base := by
  unfold writeIndex
  split
  · simp
  · split
    · simp
    · split
      · simp
      · split <;> simp

@[simp] theorem writeControl_base_pending (value : Word) (s : State) :
    (writeControl value s).base.pending = s.base.pending := by
  unfold writeControl
  split
  · simp
  · split <;> simp

@[simp] theorem unmask_base_pending (v : Vec) (s : State) : (unmask v s).base.pending = s.base.pending := rfl

/-! ### Fetches -/

@[simp] theorem takeEntry_base (r : RingId) (bytes : List Byte) (s : State) : (takeEntry r bytes s).base = s.base := by
  unfold takeEntry
  dsimp only
  split
  · simp
  · split <;> simp

@[simp] theorem fetchFails_base (r : RingId) (addr : Addr) (s : State) : (fetchFails r addr s).base = s.base := by
  simp [fetchFails]

@[simp] theorem takeCommand_base (bytes : List Byte) (s : State) : (takeCommand bytes s).base = s.base := by
  unfold takeCommand
  dsimp only
  split <;> simp

/-! ### Administrative commands: parameters and rings -/

@[simp] theorem identify_base (buffer : Addr) (s : State) : (identify buffer s).base = s.base := by
  unfold identify
  split <;> simp

@[simp] theorem setParameters_base_pending (selection : Byte) (values : Params) (s : State) :
    (setParameters selection values s).base.pending = s.base.pending := by
  unfold setParameters
  split
  · simp
  · dsimp only
    split
    · simp
    · split <;> simp

@[simp] theorem createSq_base (ring cq weight size : Nat) (base : Addr) (s : State) :
    (createSq ring cq weight size base s).base = s.base := by
  unfold createSq createSqRing
  split
  · split
    · split
      · simp
      · split <;> simp
    · simp
  · simp

@[simp] theorem deleteSq_base (ring : Nat) (s : State) : (deleteSq ring s).base = s.base := by
  unfold deleteSq
  split
  · simp
  · dsimp only
    split <;> simp

@[simp] theorem createCq_base (ring vector count size time : Nat) (base : Addr) (s : State) :
    (createCq ring vector count size time base s).base = s.base := by
  unfold createCq
  split
  · split
    · split <;> simp
    · simp
  · simp

@[simp] theorem deleteCq_base (ring : Nat) (s : State) : (deleteCq ring s).base = s.base := by
  unfold deleteCq
  split
  · simp
  · split
    · simp
    · split <;> simp

@[simp] theorem applyEventRing_base_pending (v : Vec) (count size time : Nat) (base : Addr) (s : State) :
    (applyEventRing v count size time base s).base.pending = s.base.pending := by
  simp [applyEventRing]

@[simp] theorem resumeEventRing_base_pending (s : State) : (resumeEventRing s).base.pending = s.base.pending := by
  unfold resumeEventRing
  split <;> simp

@[simp] theorem setEventRingCommand_base_pending (vector count size time : Nat) (base : Addr) (s : State) :
    (setEventRingCommand vector count size time base s).base.pending = s.base.pending := by
  unfold setEventRingCommand
  split
  · simp
  · split
    · split <;> simp
    · simp

/-! ### Administrative commands: the loop and its nodes -/

@[simp] theorem loopStart_base (s : State) : (loopStart s).base = s.base := by
  unfold loopStart
  split
  · simp
  · split <;> simp

@[simp] theorem loopStop_base (s : State) : (loopStop s).base = s.base := by
  unfold loopStop
  split <;> simp

@[simp] theorem censusCommand_base (s : State) : (censusCommand s).base = s.base := by
  unfold censusCommand
  split <;> simp

@[simp] theorem nodeReset_base (node : Nat) (s : State) : (nodeReset node s).base = s.base := by
  unfold nodeReset
  split
  · simp
  · split
    · simp
    · split <;> simp

@[simp] theorem nodeTableRead_base (buffer : Addr) (s : State) : (nodeTableRead buffer s).base = s.base := by
  unfold nodeTableRead
  split <;> simp

@[simp] theorem bufferWritten_base (result : WriteEnd) (detail : Option Nat) (s : State) :
    (bufferWritten result detail s).base = s.base := by
  cases result <;> simp [bufferWritten]

/-! ### Administrative commands: lists, attention entries, slots and jobs -/

@[simp] theorem loadList_base (id count : Nat) (s : State) : (loadList id count s).base = s.base := by
  unfold loadList
  split
  · simp
  · split
    · simp
    · split
      · simp
      · split <;> simp

@[simp] theorem loadFails_base (id : ListId) (outcome : AdminOutcome) (detail : Option Nat) (s : State) :
    (loadFails id outcome detail s).base = s.base := by
  simp [loadFails]

@[simp] theorem listRead_base (id : ListId) (count : Nat) (bytes : List Byte) (s : State) :
    (listRead id count bytes s).base = s.base := by
  unfold listRead
  split <;> simp [holdList]

@[simp] theorem unloadList_base (id : Nat) (s : State) : (unloadList id s).base = s.base := by
  unfold unloadList
  split
  · simp
  · split <;> simp

@[simp] theorem addEntry_base (e : AttentionEntry) (s : State) : (addEntry e s).base = s.base := by
  simp [addEntry]

@[simp] theorem addChecked_base (e : AttentionEntry) (s : State) : (addChecked e s).base = s.base := by
  unfold addChecked addWithList
  split
  · simp
  · split
    · simp
    · split
      · split <;> simp
      · simp

@[simp] theorem attentionAdd_base (node source kind list : Nat) (cookie : Word) (s : State) :
    (attentionAdd node source kind list cookie s).base = s.base := by
  unfold attentionAdd
  split <;> simp

@[simp] theorem armTo_base (target : EntryState) (node source : Nat) (s : State) :
    (armTo target node source s).base = s.base := by
  unfold armTo setArmed
  split
  · simp
  · split
    · simp
    · split
      case h_1 | h_2 => split <;> simp
      all_goals simp

@[simp] theorem removeEntry_base (e : AttentionEntry) (s : State) : (removeEntry e s).base = s.base := by
  unfold removeEntry
  dsimp only
  split <;> split <;> simp

@[simp] theorem attentionDelete_base (node source : Nat) (s : State) : (attentionDelete node source s).base = s.base := by
  unfold attentionDelete
  split
  · simp
  · split
    · simp
    · split <;> simp

@[simp] theorem slotStart_base (slot list policy vector period offset size : Nat) (base : Addr) (s : State) :
    (slotStart slot list policy vector period offset size base s).base = s.base := by
  unfold slotStart startIdleSlot
  split
  · split
    · split
      · split
        case h_3 => split <;> simp
        all_goals simp
      · simp
    · simp
  · simp

@[simp] theorem slotStop_base (slot : Nat) (s : State) : (slotStop slot s).base = s.base := by
  unfold slotStop
  split
  · simp
  · split
    · simp
    · dsimp only
      split <;> simp

@[simp] theorem slotResume_base (slot : Nat) (s : State) : (slotResume slot s).base = s.base := by
  unfold slotResume
  split
  · simp
  · split <;> simp

@[simp] theorem abortJob_base (ring jobId : Nat) (s : State) : (abortJob ring jobId s).base = s.base := by
  unfold abortJob
  split
  · simp
  · dsimp only
    split <;> simp

/-! ### The ends of a context's host-memory accesses -/

@[simp] theorem inlineEnds_base (c : CtxId) (result : ReadEnd) (s : State) : (inlineEnds c result s).base = s.base := by
  unfold inlineEnds
  dsimp only
  split
  · simp
  · split <;> simp

@[simp] theorem stagedClaim_base (c : CtxId) (s : State) : (stagedClaim c s).base = s.base := by
  unfold stagedClaim
  split
  · rfl
  · rename_i p _
    split
    · rfl
    · rename_i n _
      have begun := claimOperation_base c p n s
      split
      · rename_i t ht
        rwa [ht] at begun
      · rename_i e t ht
        rw [ht] at begun
        simpa using begun

@[simp] theorem stagingEnds_base (c : CtxId) (result : ReadEnd) (s : State) : (stagingEnds c result s).base = s.base := by
  cases result <;> simp [stagingEnds]

@[simp] theorem inWriteEnds_base (c : CtxId) (w : InBufferWrite) (result : WriteEnd) (s : State) :
    (inWriteEnds c w result s).base = s.base := by
  cases result <;> simp [inWriteEnds]

/-! ### The wire -/

@[simp] theorem notSent_base (f : Frame) (s : State) : (notSent f s).base = s.base := by
  unfold notSent
  split
  · rfl
  · split
    · rfl
    · dsimp only
      split <;> simp

@[simp] theorem sendNext_base (frames : List Frame) (s : State) : (sendNext frames s).base = s.base := by
  induction frames generalizing s with
  | nil => rfl
  | cons f rest ih =>
    unfold sendNext
    split
    · rfl
    · rw [ih, notSent_base]

@[simp] theorem transmitEnds_base (s : State) : (transmitEnds s).base = s.base := by
  simp [transmitEnds]

@[simp] theorem ownFrameClassified_base (s : State) : (ownFrameClassified s).base = s.base := by
  unfold ownFrameClassified
  split <;> simp

@[simp] theorem ownFrameReturned_base (f : Frame) (s : State) : (ownFrameReturned f s).base = s.base := by
  unfold ownFrameReturned
  split <;> simp

@[simp] theorem dropTransit_base (r : TransitRecord) (s : State) : (dropTransit r s).base = s.base := rfl

@[simp] theorem classifyCorrupt_base (r : TransitRecord) (s : State) : (classifyCorrupt r s).base = s.base := by
  unfold classifyCorrupt
  split
  · simp
  · split <;> simp

@[simp] theorem classifyGood_base (r : TransitRecord) (f : Frame) (s : State) : (classifyGood r f s).base = s.base := by
  unfold classifyGood
  split
  · simp
  · split <;> simp

@[simp] theorem examineNode_base (f : Frame) (s : State) (n : NodeId) : (examineNode f s n).base = s.base := by
  unfold examineNode
  dsimp only
  split <;> split <;> simp

@[simp] theorem examineVectors_base (f : Frame) (s : State) : (examineVectors f s).base = s.base :=
  base_foldl (examineNode f) (examineNode_base f) _ s

@[simp] theorem goodFrame_base (r : TransitRecord) (f : Frame) (s : State) : (goodFrame r f s).base = s.base := by
  unfold goodFrame
  dsimp only
  split <;> simp

@[simp] theorem classifyLost_base (t : Tag) (s : State) : (classifyLost t s).base = s.base := by
  unfold classifyLost
  split
  · rfl
  · split
    · split <;> simp
    · simp

@[simp] theorem frameLost_base (r : TransitRecord) (s : State) : (frameLost r s).base = s.base := by
  unfold frameLost
  dsimp only
  split <;> simp

@[simp] theorem contextClaimsAgain_base (c : CtxId) (op : Operation) (s : State) :
    (contextClaimsAgain c op s).base = s.base := by
  unfold contextClaimsAgain
  dsimp only
  split
  · simp
  · split <;> simp

@[simp] theorem serviceClaimsAgain_base (op : Operation) (s : State) : (serviceClaimsAgain op s).base = s.base := by
  unfold serviceClaimsAgain
  split <;> simp

@[simp] theorem backoffEnds_base (op : Operation) (s : State) : (backoffEnds op s).base = s.base := by
  unfold backoffEnds
  dsimp only
  split <;> simp

/-! ### Timers -/

@[simp] theorem deferExpires_base (d : DeferId) (c : CtxId) (s : State) : (deferExpires d c s).base = s.base := by
  simp [deferExpires]

@[simp] theorem nextTry_base (c : CtxId) (s : State) : (nextTry c s).base = s.base := by
  unfold nextTry
  split <;> simp

@[simp] theorem delayEnds_base (c : CtxId) (s : State) : (delayEnds c s).base = s.base := by
  simp [delayEnds]

@[simp] theorem missPeriod_base (k : SlotId) (s : State) : (missPeriod k s).base = s.base := rfl

@[simp] theorem expiryByState_base (k : SlotId) (s : State) : (expiryByState k s).base = s.base := by
  unfold expiryByState
  split
  · split
    · unfold activeExpiry
      split <;> simp [startSlotRun]
    · simp [waitForLoop]
  all_goals simp

@[simp] theorem periodExpires_base (k : SlotId) (s : State) : (periodExpires k s).base = s.base := by
  unfold periodExpires sequenceExhausted
  dsimp only
  split <;> simp

/-! ### Records written -/

@[simp] theorem settleNotice_base (s : State) : (settleNotice s).base = s.base := by
  unfold settleNotice
  split
  · rfl
  · split
    · rfl
    · split <;> simp

@[simp] theorem keepNotice_base (s : State) : (keepNotice s).base = s.base := by
  unfold keepNotice
  split <;> rfl

@[simp] theorem messageIfDue_base_pending (v : Vec) (m : Moderation) (s : State) :
    (messageIfDue v m s).base.pending = s.base.pending := by
  unfold messageIfDue
  split <;> simp

@[simp] theorem timerMessage_base_pending (v : Vec) (m : Moderation) (s : State) :
    (timerMessage v m s).base.pending = s.base.pending := by
  unfold timerMessage
  split <;> simp

@[simp] theorem eventWritten_base_pending (s : State) : (eventWritten s).base.pending = s.base.pending := by
  simp [eventWritten]

@[simp] theorem eventFails_base_pending (s : State) : (eventFails s).base.pending = s.base.pending := by
  simp [eventFails]

@[simp] theorem completionWritten_base_pending (k : RingId) (s : State) :
    (completionWritten k s).base.pending = s.base.pending := by
  unfold completionWritten
  dsimp only
  split <;> simp

@[simp] theorem enterFatal_base_pending (addr : Addr) (s : State) : (enterFatal addr s).base.pending = s.base.pending := by
  simp [enterFatal]

@[simp] theorem completionFails_base_pending (k : RingId) (addr : Addr) (s : State) :
    (completionFails k addr s).base.pending = s.base.pending := by
  unfold completionFails
  split <;> simp

@[simp] theorem compTimer_base_pending (k : RingId) (s : State) : (compTimer k s).base.pending = s.base.pending := by
  simp [compTimer]

@[simp] theorem eventTimer_base_pending (s : State) : (eventTimer s).base.pending = s.base.pending := by
  simp [eventTimer]

@[simp] theorem snapshotWritten_base_pending (k : SlotId) (result : WriteEnd) (s : State) :
    (snapshotWritten k result s).base.pending = s.base.pending := by
  cases result <;> simp [snapshotWritten]

end Sys2Proof.Machine
end

section
/-! PROOF. The step: the front command with the queue's rest, or a microsecond of the timebase; and every command goes on, but
for a read that brings another number of bytes than the part asked for. -/

namespace Sys2Proof.Machine

/-! ### The step -/

theorem step_front {c : Instr} {rest : List Instr} {s : State} (h : s.pending = c :: rest) :
    step s = exec c { s with pending := rest } := by
  rw [step, h]

theorem step_idle {s : State} (h : s.pending = []) : step s = .next (tick s) := by
  rw [step, h]

/-- Settles O1. -/
theorem stepRunsFrontCommand : Obligations.StepRunsFrontCommand := by
  unfold Obligations.StepRunsFrontCommand
  intro c rest s front
  exact step_front front

theorem tick_initialising {s : State} (h : s.regs.ready = false) : tick s = s := by
  simp [tick, h]

theorem tick_ready {s : State} (h : s.regs.ready = true) : tick s = s.setTimebase (nextInstant s.timebase) := by
  simp [tick, h]

theorem nextInstant_counts {i : Instant} (h : i + 1 < 2 ^ 64) : nextInstant i = i + 1 := if_pos h

theorem nextInstant_free {i : Instant} (h : 2 ^ 64 ≤ i + 1) : nextInstant i = Config.timebaseAfterLast.toNat :=
  if_neg (Nat.not_lt.mpr h)

/-- Settles O2: a microsecond by READY, and the timebase by its largest value. -/
theorem emptyQueueCountsOneMicrosecond : Obligations.EmptyQueueCountsOneMicrosecond := by
  unfold Obligations.EmptyQueueCountsOneMicrosecond
  intro s empty
  rw [step_idle empty]
  refine ⟨fun initialising => ?_, fun ready below => ?_, fun ready largest => ?_⟩
  · rw [tick_initialising initialising]
  · rw [tick_ready ready, nextInstant_counts below]
    rfl
  · rw [tick_ready ready, nextInstant_free largest]
    rfl

/-! ### Outcomes that go on -/

/-- An outcome goes on, to a state whose queue is the one a state had. -/
def KeepsQueue (s : State) (r : Result) : Prop := ∃ t, r = .next t ∧ t.pending = s.pending

theorem goesOn_iff (i : Instr) (s : State) : GoesOn i s ↔ KeepsQueue s (exec i s) := Iff.rfl

@[simp] theorem keepsQueue_next (s t : State) : KeepsQueue s (.next t) ↔ t.base.pending = s.base.pending :=
  ⟨fun ⟨_, next, kept⟩ => Host.Outcome.next.inj next ▸ kept, fun kept => ⟨t, rfl, kept⟩⟩

@[simp] theorem keepsQueue_taken (s t : State) : KeepsQueue s (taken t) ↔ t.base.pending = s.base.pending := by
  rw [taken, keepsQueue_next, react_base]

theorem execRegisterWrite_keepsQueue (offset : BitVec 8) (value : Word) (s : State) :
    KeepsQueue s (execRegisterWrite offset value s) := by
  unfold execRegisterWrite
  split
  case h_8 => split <;> simp
  all_goals simp

theorem execMsixVectorMaskWrite_keepsQueue (v : Vec) (masked : Bool) (s : State) :
    KeepsQueue s (execMsixVectorMaskWrite v masked s) := by
  cases masked <;> simp [execMsixVectorMaskWrite]

theorem execFrameReturn_keepsQueue (bytes : List Byte) (s : State) : KeepsQueue s (execFrameReturn bytes s) := by
  unfold execFrameReturn
  split
  · split <;> simp
  · simp
  · split <;> simp

theorem execModerationTimerExpiry_keepsQueue (ring : ModeratedRing) (s : State) :
    KeepsQueue s (execModerationTimerExpiry ring s) := by
  cases ring with
  | completion k =>
    unfold execModerationTimerExpiry
    dsimp only
    split <;> simp
  | event =>
    unfold execModerationTimerExpiry
    dsimp only
    split <;> simp

/-! ### Reads that bring another length (assumption 5) -/

theorem execFetchReadEnd_keepsQueue_or_stops (result : ReadEnd) (s : State) :
    KeepsQueue s (execFetchReadEnd result s) ∨
      execFetchReadEnd result s = .fault .hostDataLength ∧
        ∃ bytes, result = .data bytes ∧ s.rings.fetch ≠ none ∧ bytes.length ≠ 64 := by
  unfold execFetchReadEnd
  split
  · simp
  · rename_i reading
    cases result with
    | error addr => simp
    | data bytes => by_cases entry : bytes.length = 64 <;> simp [reading, entry]

theorem execAdminFetchReadEnd_keepsQueue_or_stops (result : ReadEnd) (s : State) :
    KeepsQueue s (execAdminFetchReadEnd result s) ∨
      execAdminFetchReadEnd result s = .fault .hostDataLength ∧
        ∃ bytes, result = .data bytes ∧ s.admin.fetching ≠ none ∧ bytes.length ≠ 64 := by
  unfold execAdminFetchReadEnd
  split
  · rename_i reading
    cases result with
    | error addr => simp
    | data bytes => by_cases entry : bytes.length = 64 <;> simp [Option.isSome_iff_ne_none.mp reading, entry]
  · simp

theorem execListLoadReadEnd_keepsQueue_or_stops (result : ReadEnd) (s : State) :
    KeepsQueue s (execListLoadReadEnd result s) ∨
      execListLoadReadEnd result s = .fault .hostDataLength ∧
        ∃ bytes l count, result = .data bytes ∧ adminWait s = some (.loadList l) ∧ s.stored l = .loading count ∧
          bytes.length ≠ 16 * count := by
  unfold execListLoadReadEnd
  split
  · rename_i waits
    split
    · rename_i count bytes loading
      by_cases steps : bytes.length = 16 * count <;> simp [waits, loading, steps]
    all_goals simp
  · simp

/-- Only a read that brings data can have another length than was asked for. -/
theorem wrongLength_of_not_readHasLength {result : ReadEnd} {length : Nat} (h : ¬ readHasLength result length = true) :
    ∃ bytes, result = .data bytes ∧ bytes.length ≠ length := by
  simpa [readHasLength_iff] using h

theorem execInlineListReadEnd_keepsQueue_or_stops (c : CtxId) (result : ReadEnd) (s : State) :
    KeepsQueue s (execInlineListReadEnd c result s) ∨
      execInlineListReadEnd c result s = .fault .hostDataLength ∧
        ∃ bytes addr length, result = .data bytes ∧ (s.ctx c).reading = some (.inlineList addr length) ∧
          bytes.length ≠ length := by
  unfold execInlineListReadEnd
  split
  · rename_i addr length reading
    split
    · split <;> simp
    · rename_i other
      obtain ⟨bytes, brought, differs⟩ := wrongLength_of_not_readHasLength other
      exact .inr ⟨rfl, bytes, addr, length, brought, reading, differs⟩
  · simp

theorem execStagingReadEnd_keepsQueue_or_stops (c : CtxId) (result : ReadEnd) (s : State) :
    KeepsQueue s (execStagingReadEnd c result s) ∨
      execStagingReadEnd c result s = .fault .hostDataLength ∧
        ∃ bytes addr length, result = .data bytes ∧ (s.ctx c).reading = some (.staging addr length) ∧
          bytes.length ≠ length := by
  unfold execStagingReadEnd
  split
  · rename_i addr length reading
    split
    · split <;> simp
    · rename_i other
      obtain ⟨bytes, brought, differs⟩ := wrongLength_of_not_readHasLength other
      exact .inr ⟨rfl, bytes, addr, length, brought, reading, differs⟩
  · simp

/-! ### Every command -/

/-- The ends of the reads that bring a number of bytes the part asked for. -/
def endsSizedRead : Instr → Bool
  | .fetchReadEnd _ | .adminFetchReadEnd _ | .listLoadReadEnd _ | .inlineListReadEnd .. | .stagingReadEnd .. => true
  | _ => false

/-- A command that finds what it needs keeps the queue by the lemma of what it does; one that does not changes nothing. -/
theorem exec_keepsQueue {i : Instr} (h : endsSizedRead i = false) (s : State) : KeepsQueue s (exec i s) := by
  cases i with
  | fetchReadEnd | adminFetchReadEnd | listLoadReadEnd | inlineListReadEnd | stagingReadEnd => cases h
  | powerOn => simp [exec, execPowerOn]
  | pcieReset => simp [exec, execPcieReset]
  | functionReset => simp [exec, execFunctionReset]
  | initialisationEnd => simp [exec, execInitialisationEnd]
  | enableSet => simp [exec, execEnableSet]
  | enableCleared => simp [exec, execEnableCleared]
  | adminRegisterWrite reg value => simp [exec, execAdminRegisterWrite]
  | registerWrite offset value => exact execRegisterWrite_keepsQueue offset value s
  | producerIndexWrite ring value => simp [exec, execProducerIndexWrite]
  | completionConsumerIndexWrite ring value => simp [exec, execCompletionConsumerIndexWrite]
  | eventConsumerIndexWrite value => simp [exec, execEventConsumerIndexWrite]
  | captureConsumerIndexWrite slot value => simp [exec, execCaptureConsumerIndexWrite]
  | msixVectorMaskWrite v masked => exact execMsixVectorMaskWrite_keepsQueue v masked s
  | identify => simp only [exec, execIdentify]; split <;> simp
  | setParameters => simp only [exec, execSetParameters]; split <;> simp
  | createSq => simp only [exec, execCreateSq]; split <;> simp
  | deleteSq => simp only [exec, execDeleteSq]; split <;> simp
  | createCq => simp only [exec, execCreateCq]; split <;> simp
  | deleteCq => simp only [exec, execDeleteCq]; split <;> simp
  | setEventRing => simp only [exec, execSetEventRing]; split <;> simp
  | loopStart => simp only [exec, execLoopStart]; split <;> simp
  | loopStop => simp only [exec, execLoopStop]; split <;> simp
  | census => simp only [exec, execCensus]; split <;> simp
  | nodeReset => simp only [exec, execNodeReset]; split <;> simp
  | nodeTableRead => simp only [exec, execNodeTableRead]; split <;> simp
  | loadList => simp only [exec, execLoadList]; split <;> simp
  | unloadList => simp only [exec, execUnloadList]; split <;> simp
  | attentionAdd => simp only [exec, execAttentionAdd]; split <;> simp
  | attentionArm => simp only [exec, execAttentionArm]; split <;> simp
  | attentionDisarm => simp only [exec, execAttentionDisarm]; split <;> simp
  | attentionDelete => simp only [exec, execAttentionDelete]; split <;> simp
  | slotStart => simp only [exec, execSlotStart]; split <;> simp
  | slotStop => simp only [exec, execSlotStop]; split <;> simp
  | slotResume => simp only [exec, execSlotResume]; split <;> simp
  | abortJob => simp only [exec, execAbortJob]; split <;> simp
  | adminBufferWriteEnd result => simp only [exec, execAdminBufferWriteEnd]; split <;> simp
  | inBufferWriteEnd c result => simp only [exec, execInBufferWriteEnd]; split <;> simp
  | frameTransmitEnd => simp only [exec, execFrameTransmitEnd]; split <;> simp
  | frameReturn bytes => exact execFrameReturn_keepsQueue bytes s
  | returnTimeout sender => simp only [exec, execReturnTimeout]; split <;> simp
  | busyBackoffExpiry owner => simp only [exec, execBusyBackoffExpiry]; split <;> simp
  | signalLoss => simp only [exec, execSignalLoss]; split <;> simp
  | trainingTimeout => simp only [exec, execTrainingTimeout]; split <;> simp
  | retrainTimerExpiry => simp only [exec, execRetrainTimerExpiry]; split <;> simp
  | deferDeadlineExpiry d => simp only [exec, execDeferDeadlineExpiry]; split <;> simp
  | jobDeadlineExpiry c => simp only [exec, execJobDeadlineExpiry]; split <;> simp
  | awaitIntervalExpiry c => simp only [exec, execAwaitIntervalExpiry]; split <;> simp
  | delayExpiry c => simp only [exec, execDelayExpiry]; split <;> simp
  | periodExpiry k => simp only [exec, execPeriodExpiry]; split <;> simp
  | eventRecordWritten => simp only [exec, execEventRecordWritten]; split <;> simp
  | eventWriteError => simp only [exec, execEventWriteError]; split <;> simp
  | completionRecordWritten k => simp only [exec, execCompletionRecordWritten]; split <;> simp
  | completionWriteError k addr => simp only [exec, execCompletionWriteError]; split <;> simp
  | moderationTimerExpiry ring => exact execModerationTimerExpiry_keepsQueue ring s
  | snapshotWriteEnd k result => simp only [exec, execSnapshotWriteEnd]; split <;> simp

/-- Settles O3: a command that ends no such read by `exec_keepsQueue`, and each of the five reads by its own lemma. -/
theorem everyCommandGoesOn : Obligations.EveryCommandGoesOn := by
  unfold Obligations.EveryCommandGoesOn
  intro i s
  rw [goesOn_iff]
  cases i with
  | fetchReadEnd result =>
    obtain goes | ⟨stops, bytes, rfl, reading, differs⟩ := execFetchReadEnd_keepsQueue_or_stops result s
    · exact .inl goes
    · exact .inr ⟨stops, bytes, .inl ⟨rfl, reading, differs⟩⟩
  | adminFetchReadEnd result =>
    obtain goes | ⟨stops, bytes, rfl, reading, differs⟩ := execAdminFetchReadEnd_keepsQueue_or_stops result s
    · exact .inl goes
    · exact .inr ⟨stops, bytes, .inr (.inl ⟨rfl, reading, differs⟩)⟩
  | listLoadReadEnd result =>
    obtain goes | ⟨stops, bytes, l, count, rfl, waits, loading, differs⟩ := execListLoadReadEnd_keepsQueue_or_stops result s
    · exact .inl goes
    · exact .inr ⟨stops, bytes, .inr (.inr (.inl ⟨l, count, rfl, waits, loading, differs⟩))⟩
  | inlineListReadEnd c result =>
    obtain goes | ⟨stops, bytes, addr, length, rfl, reading, differs⟩ := execInlineListReadEnd_keepsQueue_or_stops c result s
    · exact .inl goes
    · exact .inr ⟨stops, bytes, .inr (.inr (.inr (.inl ⟨c, addr, length, rfl, reading, differs⟩)))⟩
  | stagingReadEnd c result =>
    obtain goes | ⟨stops, bytes, addr, length, rfl, reading, differs⟩ := execStagingReadEnd_keepsQueue_or_stops c result s
    · exact .inl goes
    · exact .inr ⟨stops, bytes, .inr (.inr (.inr (.inr ⟨c, addr, length, rfl, reading, differs⟩)))⟩
  | _ => exact .inl (exec_keepsQueue rfl s)

end Sys2Proof.Machine
end
